-- ==== Sys2Proof/Word.lean ====
section
/-! DEFINITION. The word types of the machine: 8-bit data, 16-bit addresses (00_scope.md R7, R9). -/

namespace Sys2Proof

/-- A `u8` of the spec (R9): register contents, memory bytes, immediates. -/
abbrev Byte := BitVec 8

/-- A `u16` of the spec (R9): PC, SP, pair views and addresses. -/
abbrev Word := BitVec 16

end Sys2Proof
end

