-- ==== Sys2Proof/Config.lean ====
section
/-! DEFINITION. The implementation parameters of CORE (00_scope.md R7). -/

namespace Sys2Proof.Config

/-- `PREFIX`, the extended-prefix byte (R7, R142). -/
def cbPrefix : Byte := 0xCB

/-- The number of byte addresses (R7, R70). -/
def addressSpace : Nat := 65536

/-- `OVERLAY_SIZE`: the overlay covers 0x0000 to 0x00FF (R7, R72). -/
def overlaySize : Nat := 256

/-- `OVERLAY_DISABLE_ADDR` (R7, R48). -/
def overlayDisableAddr : Word := 0xFF50

/-- `RESET_PC` (R7, R50). -/
def resetPc : Word := 0x0000

/-- `RESET_SP` (R7, R50). -/
def resetSp : Word := 0xFFFE

/-- `RESET_GPR`, for each of A, F, B, C, D, E, H, L (R7, R50). -/
def resetGpr : Byte := 0x00

/-- What an idle step of HALTED or STOPPED adds to the cycle counter (R148). -/
def idleCycles : Nat := 4

/-- What an address that a memory does not list reads as. For `boot` this is the zero padding of R650.
For `main` the spec leaves the content open (`MEM_INIT`).
DESIGN CHOICE (log 1): 0x00; unsafe for a claim about bytes of `State.reset` that nothing wrote. -/
def unlisted : Byte := 0x00

end Sys2Proof.Config
end

