-- ==== Sys2Proof/Syntax.lean ====
section
/-! DEFINITION. The instructions: one constructor for each of the 512 rows of spec/opcode_table.json, and the operand forms their groups share (30_encoding.md R116 to R124). -/

namespace Sys2Proof

/-- An 8-bit register that a 3-bit r field can name (R116). -/
inductive Reg8 where
  | b
  | c
  | d
  | e
  | h
  | l
  | a
  deriving DecidableEq, Repr

/-- What a 3-bit r field names: a register, or the byte at HL (R116). -/
inductive Operand8 where
  | reg (r : Reg8)
  | indHl
  deriving DecidableEq, Repr

/-- The register-pair field rr (R117). -/
inductive Pair where
  | bc
  | de
  | hl
  | sp
  deriving DecidableEq, Repr

/-- The register-pair field qq of PUSH and POP (R118). -/
inductive StackPair where
  | bc
  | de
  | hl
  | af
  deriving DecidableEq, Repr

/-- The condition field cc (R119). -/
inductive Cond where
  | nz
  | z
  | nc
  | c
  deriving DecidableEq, Repr

/-- The ALU operation field (R120). -/
inductive AluOp where
  | add
  | adc
  | sub
  | sbc
  | and
  | xor
  | or
  | cp
  deriving DecidableEq, Repr

/-- The operand source of an accumulator operation (R350). -/
inductive AluSrc where
  | reg (r : Reg8)
  | indHl
  | imm (n : Byte)
  deriving DecidableEq, Repr

/-- The rotate/shift field of a prefixed byte (R121). -/
inductive RotOp where
  | rlc
  | rrc
  | rl
  | rr
  | sla
  | sra
  | swap
  | srl
  deriving DecidableEq, Repr

/-- An instruction: a slot of the 512-slot table with its operand bytes (R110, R123, R124, R127).
The slots with operand bytes stand first, then the others, each group in slot order: Lean compiles a constructor with fields only among the first 244. -/
inductive Instr where
  /-- LD BC,n16 (0x01), R220. -/
  | ldBcN16 (n : Word)
  /-- LD B,n8 (0x06), R204. -/
  | ldBN8 (n : Byte)
  /-- LD (a16),SP (0x08), R221. -/
  | ldIndA16Sp (addr : Word)
  /-- LD C,n8 (0x0E), R204. -/
  | ldCN8 (n : Byte)
  /-- STOP (0x10), R556. -/
  | stop (ignored : Byte)
  /-- LD DE,n16 (0x11), R220. -/
  | ldDeN16 (n : Word)
  /-- LD D,n8 (0x16), R204. -/
  | ldDN8 (n : Byte)
  /-- JR e8 (0x18), R504. -/
  | jrE8 (e : Byte)
  /-- LD E,n8 (0x1E), R204. -/
  | ldEN8 (n : Byte)
  /-- JR NZ,e8 (0x20), R505. -/
  | jrNzE8 (e : Byte)
  /-- LD HL,n16 (0x21), R220. -/
  | ldHlN16 (n : Word)
  /-- LD H,n8 (0x26), R204. -/
  | ldHN8 (n : Byte)
  /-- JR Z,e8 (0x28), R505. -/
  | jrZE8 (e : Byte)
  /-- LD L,n8 (0x2E), R204. -/
  | ldLN8 (n : Byte)
  /-- JR NC,e8 (0x30), R505. -/
  | jrNcE8 (e : Byte)
  /-- LD SP,n16 (0x31), R220. -/
  | ldSpN16 (n : Word)
  /-- LD (HL),n8 (0x36), R205. -/
  | ldIndHlN8 (n : Byte)
  /-- JR C,e8 (0x38), R505. -/
  | jrCE8 (e : Byte)
  /-- LD A,n8 (0x3E), R204. -/
  | ldAN8 (n : Byte)
  /-- JP NZ,a16 (0xC2), R502. -/
  | jpNzA16 (addr : Word)
  /-- JP a16 (0xC3), R501. -/
  | jpA16 (addr : Word)
  /-- CALL NZ,a16 (0xC4), R507. -/
  | callNzA16 (addr : Word)
  /-- ADD A,n8 (0xC6), R353. -/
  | addAN8 (n : Byte)
  /-- JP Z,a16 (0xCA), R502. -/
  | jpZA16 (addr : Word)
  /-- CALL Z,a16 (0xCC), R507. -/
  | callZA16 (addr : Word)
  /-- CALL a16 (0xCD), R506. -/
  | callA16 (addr : Word)
  /-- ADC A,n8 (0xCE), R354. -/
  | adcAN8 (n : Byte)
  /-- JP NC,a16 (0xD2), R502. -/
  | jpNcA16 (addr : Word)
  /-- CALL NC,a16 (0xD4), R507. -/
  | callNcA16 (addr : Word)
  /-- SUB A,n8 (0xD6), R355. -/
  | subAN8 (n : Byte)
  /-- JP C,a16 (0xDA), R502. -/
  | jpCA16 (addr : Word)
  /-- CALL C,a16 (0xDC), R507. -/
  | callCA16 (addr : Word)
  /-- SBC A,n8 (0xDE), R356. -/
  | sbcAN8 (n : Byte)
  /-- LDH (a8),A (0xE0), R213. -/
  | ldhIndA8A (n : Byte)
  /-- AND A,n8 (0xE6), R357. -/
  | andAN8 (n : Byte)
  /-- ADD SP,e8 (0xE8), R362. -/
  | addSpE8 (e : Byte)
  /-- LD (a16),A (0xEA), R211. -/
  | ldIndA16A (addr : Word)
  /-- XOR A,n8 (0xEE), R358. -/
  | xorAN8 (n : Byte)
  /-- LDH A,(a8) (0xF0), R212. -/
  | ldhAIndA8 (n : Byte)
  /-- OR A,n8 (0xF6), R359. -/
  | orAN8 (n : Byte)
  /-- LD HL,SP+e8 (0xF8), R363. -/
  | ldHlSpE8 (e : Byte)
  /-- LD A,(a16) (0xFA), R210. -/
  | ldAIndA16 (addr : Word)
  /-- CP A,n8 (0xFE), R360. -/
  | cpAN8 (n : Byte)
  /-- NOP (0x00), R550. -/
  | nop
  /-- LD (BC),A (0x02), R208. -/
  | ldIndBcA
  /-- INC BC (0x03), R304. -/
  | incBc
  /-- INC B (0x04), R300. -/
  | incB
  /-- DEC B (0x05), R302. -/
  | decB
  /-- RLCA (0x07), R400. -/
  | rlca
  /-- ADD HL,BC (0x09), R361. -/
  | addHlBc
  /-- LD A,(BC) (0x0A), R206. -/
  | ldAIndBc
  /-- DEC BC (0x0B), R305. -/
  | decBc
  /-- INC C (0x0C), R300. -/
  | incC
  /-- DEC C (0x0D), R302. -/
  | decC
  /-- RRCA (0x0F), R401. -/
  | rrca
  /-- LD (DE),A (0x12), R209. -/
  | ldIndDeA
  /-- INC DE (0x13), R304. -/
  | incDe
  /-- INC D (0x14), R300. -/
  | incD
  /-- DEC D (0x15), R302. -/
  | decD
  /-- RLA (0x17), R402. -/
  | rla
  /-- ADD HL,DE (0x19), R361. -/
  | addHlDe
  /-- LD A,(DE) (0x1A), R207. -/
  | ldAIndDe
  /-- DEC DE (0x1B), R305. -/
  | decDe
  /-- INC E (0x1C), R300. -/
  | incE
  /-- DEC E (0x1D), R302. -/
  | decE
  /-- RRA (0x1F), R403. -/
  | rra
  /-- LD (HL+),A (0x22), R216. -/
  | ldIndHlIncA
  /-- INC HL (0x23), R304. -/
  | incHl
  /-- INC H (0x24), R300. -/
  | incH
  /-- DEC H (0x25), R302. -/
  | decH
  /-- DAA (0x27), R551. -/
  | daa
  /-- ADD HL,HL (0x29), R361. -/
  | addHlHl
  /-- LD A,(HL+) (0x2A), R218. -/
  | ldAIndHlInc
  /-- DEC HL (0x2B), R305. -/
  | decHl
  /-- INC L (0x2C), R300. -/
  | incL
  /-- DEC L (0x2D), R302. -/
  | decL
  /-- CPL (0x2F), R552. -/
  | cpl
  /-- LD (HL-),A (0x32), R217. -/
  | ldIndHlDecA
  /-- INC SP (0x33), R304. -/
  | incSp
  /-- INC (HL) (0x34), R301. -/
  | incIndHl
  /-- DEC (HL) (0x35), R303. -/
  | decIndHl
  /-- SCF (0x37), R553. -/
  | scf
  /-- ADD HL,SP (0x39), R361. -/
  | addHlSp
  /-- LD A,(HL-) (0x3A), R219. -/
  | ldAIndHlDec
  /-- DEC SP (0x3B), R305. -/
  | decSp
  /-- INC A (0x3C), R300. -/
  | incA
  /-- DEC A (0x3D), R302. -/
  | decA
  /-- CCF (0x3F), R554. -/
  | ccf
  /-- LD B,B (0x40), R201. -/
  | ldBB
  /-- LD B,C (0x41), R201. -/
  | ldBC
  /-- LD B,D (0x42), R201. -/
  | ldBD
  /-- LD B,E (0x43), R201. -/
  | ldBE
  /-- LD B,H (0x44), R201. -/
  | ldBH
  /-- LD B,L (0x45), R201. -/
  | ldBL
  /-- LD B,(HL) (0x46), R202. -/
  | ldBIndHl
  /-- LD B,A (0x47), R201. -/
  | ldBA
  /-- LD C,B (0x48), R201. -/
  | ldCB
  /-- LD C,C (0x49), R201. -/
  | ldCC
  /-- LD C,D (0x4A), R201. -/
  | ldCD
  /-- LD C,E (0x4B), R201. -/
  | ldCE
  /-- LD C,H (0x4C), R201. -/
  | ldCH
  /-- LD C,L (0x4D), R201. -/
  | ldCL
  /-- LD C,(HL) (0x4E), R202. -/
  | ldCIndHl
  /-- LD C,A (0x4F), R201. -/
  | ldCA
  /-- LD D,B (0x50), R201. -/
  | ldDB
  /-- LD D,C (0x51), R201. -/
  | ldDC
  /-- LD D,D (0x52), R201. -/
  | ldDD
  /-- LD D,E (0x53), R201. -/
  | ldDE
  /-- LD D,H (0x54), R201. -/
  | ldDH
  /-- LD D,L (0x55), R201. -/
  | ldDL
  /-- LD D,(HL) (0x56), R202. -/
  | ldDIndHl
  /-- LD D,A (0x57), R201. -/
  | ldDA
  /-- LD E,B (0x58), R201. -/
  | ldEB
  /-- LD E,C (0x59), R201. -/
  | ldEC
  /-- LD E,D (0x5A), R201. -/
  | ldED
  /-- LD E,E (0x5B), R201. -/
  | ldEE
  /-- LD E,H (0x5C), R201. -/
  | ldEH
  /-- LD E,L (0x5D), R201. -/
  | ldEL
  /-- LD E,(HL) (0x5E), R202. -/
  | ldEIndHl
  /-- LD E,A (0x5F), R201. -/
  | ldEA
  /-- LD H,B (0x60), R201. -/
  | ldHB
  /-- LD H,C (0x61), R201. -/
  | ldHC
  /-- LD H,D (0x62), R201. -/
  | ldHD
  /-- LD H,E (0x63), R201. -/
  | ldHE
  /-- LD H,H (0x64), R201. -/
  | ldHH
  /-- LD H,L (0x65), R201. -/
  | ldHL
  /-- LD H,(HL) (0x66), R202. -/
  | ldHIndHl
  /-- LD H,A (0x67), R201. -/
  | ldHA
  /-- LD L,B (0x68), R201. -/
  | ldLB
  /-- LD L,C (0x69), R201. -/
  | ldLC
  /-- LD L,D (0x6A), R201. -/
  | ldLD
  /-- LD L,E (0x6B), R201. -/
  | ldLE
  /-- LD L,H (0x6C), R201. -/
  | ldLH
  /-- LD L,L (0x6D), R201. -/
  | ldLL
  /-- LD L,(HL) (0x6E), R202. -/
  | ldLIndHl
  /-- LD L,A (0x6F), R201. -/
  | ldLA
  /-- LD (HL),B (0x70), R203. -/
  | ldIndHlB
  /-- LD (HL),C (0x71), R203. -/
  | ldIndHlC
  /-- LD (HL),D (0x72), R203. -/
  | ldIndHlD
  /-- LD (HL),E (0x73), R203. -/
  | ldIndHlE
  /-- LD (HL),H (0x74), R203. -/
  | ldIndHlH
  /-- LD (HL),L (0x75), R203. -/
  | ldIndHlL
  /-- HALT (0x76), R555. -/
  | halt
  /-- LD (HL),A (0x77), R203. -/
  | ldIndHlA
  /-- LD A,B (0x78), R201. -/
  | ldAB
  /-- LD A,C (0x79), R201. -/
  | ldAC
  /-- LD A,D (0x7A), R201. -/
  | ldAD
  /-- LD A,E (0x7B), R201. -/
  | ldAE
  /-- LD A,H (0x7C), R201. -/
  | ldAH
  /-- LD A,L (0x7D), R201. -/
  | ldAL
  /-- LD A,(HL) (0x7E), R202. -/
  | ldAIndHl
  /-- LD A,A (0x7F), R201. -/
  | ldAA
  /-- ADD A,B (0x80), R353. -/
  | addAB
  /-- ADD A,C (0x81), R353. -/
  | addAC
  /-- ADD A,D (0x82), R353. -/
  | addAD
  /-- ADD A,E (0x83), R353. -/
  | addAE
  /-- ADD A,H (0x84), R353. -/
  | addAH
  /-- ADD A,L (0x85), R353. -/
  | addAL
  /-- ADD A,(HL) (0x86), R353. -/
  | addAIndHl
  /-- ADD A,A (0x87), R353. -/
  | addAA
  /-- ADC A,B (0x88), R354. -/
  | adcAB
  /-- ADC A,C (0x89), R354. -/
  | adcAC
  /-- ADC A,D (0x8A), R354. -/
  | adcAD
  /-- ADC A,E (0x8B), R354. -/
  | adcAE
  /-- ADC A,H (0x8C), R354. -/
  | adcAH
  /-- ADC A,L (0x8D), R354. -/
  | adcAL
  /-- ADC A,(HL) (0x8E), R354. -/
  | adcAIndHl
  /-- ADC A,A (0x8F), R354. -/
  | adcAA
  /-- SUB A,B (0x90), R355. -/
  | subAB
  /-- SUB A,C (0x91), R355. -/
  | subAC
  /-- SUB A,D (0x92), R355. -/
  | subAD
  /-- SUB A,E (0x93), R355. -/
  | subAE
  /-- SUB A,H (0x94), R355. -/
  | subAH
  /-- SUB A,L (0x95), R355. -/
  | subAL
  /-- SUB A,(HL) (0x96), R355. -/
  | subAIndHl
  /-- SUB A,A (0x97), R355. -/
  | subAA
  /-- SBC A,B (0x98), R356. -/
  | sbcAB
  /-- SBC A,C (0x99), R356. -/
  | sbcAC
  /-- SBC A,D (0x9A), R356. -/
  | sbcAD
  /-- SBC A,E (0x9B), R356. -/
  | sbcAE
  /-- SBC A,H (0x9C), R356. -/
  | sbcAH
  /-- SBC A,L (0x9D), R356. -/
  | sbcAL
  /-- SBC A,(HL) (0x9E), R356. -/
  | sbcAIndHl
  /-- SBC A,A (0x9F), R356. -/
  | sbcAA
  /-- AND A,B (0xA0), R357. -/
  | andAB
  /-- AND A,C (0xA1), R357. -/
  | andAC
  /-- AND A,D (0xA2), R357. -/
  | andAD
  /-- AND A,E (0xA3), R357. -/
  | andAE
  /-- AND A,H (0xA4), R357. -/
  | andAH
  /-- AND A,L (0xA5), R357. -/
  | andAL
  /-- AND A,(HL) (0xA6), R357. -/
  | andAIndHl
  /-- AND A,A (0xA7), R357. -/
  | andAA
  /-- XOR A,B (0xA8), R358. -/
  | xorAB
  /-- XOR A,C (0xA9), R358. -/
  | xorAC
  /-- XOR A,D (0xAA), R358. -/
  | xorAD
  /-- XOR A,E (0xAB), R358. -/
  | xorAE
  /-- XOR A,H (0xAC), R358. -/
  | xorAH
  /-- XOR A,L (0xAD), R358. -/
  | xorAL
  /-- XOR A,(HL) (0xAE), R358. -/
  | xorAIndHl
  /-- XOR A,A (0xAF), R358. -/
  | xorAA
  /-- OR A,B (0xB0), R359. -/
  | orAB
  /-- OR A,C (0xB1), R359. -/
  | orAC
  /-- OR A,D (0xB2), R359. -/
  | orAD
  /-- OR A,E (0xB3), R359. -/
  | orAE
  /-- OR A,H (0xB4), R359. -/
  | orAH
  /-- OR A,L (0xB5), R359. -/
  | orAL
  /-- OR A,(HL) (0xB6), R359. -/
  | orAIndHl
  /-- OR A,A (0xB7), R359. -/
  | orAA
  /-- CP A,B (0xB8), R360. -/
  | cpAB
  /-- CP A,C (0xB9), R360. -/
  | cpAC
  /-- CP A,D (0xBA), R360. -/
  | cpAD
  /-- CP A,E (0xBB), R360. -/
  | cpAE
  /-- CP A,H (0xBC), R360. -/
  | cpAH
  /-- CP A,L (0xBD), R360. -/
  | cpAL
  /-- CP A,(HL) (0xBE), R360. -/
  | cpAIndHl
  /-- CP A,A (0xBF), R360. -/
  | cpAA
  /-- RET NZ (0xC0), R509. -/
  | retNz
  /-- POP BC (0xC1), R253. -/
  | popBc
  /-- PUSH BC (0xC5), R252. -/
  | pushBc
  /-- RST 00H (0xC7), R511. -/
  | rst00
  /-- RET Z (0xC8), R509. -/
  | retZ
  /-- RET (0xC9), R508. -/
  | ret
  /-- PREFIX (0xCB), R126. -/
  | prefixCb
  /-- RST 08H (0xCF), R511. -/
  | rst08
  /-- RET NC (0xD0), R509. -/
  | retNc
  /-- POP DE (0xD1), R253. -/
  | popDe
  /-- UNIMPLEMENTED_D3 (0xD3), R559. -/
  | unimplementedD3
  /-- PUSH DE (0xD5), R252. -/
  | pushDe
  /-- RST 10H (0xD7), R511. -/
  | rst10
  /-- RET C (0xD8), R509. -/
  | retC
  /-- RETI (0xD9), R510. -/
  | reti
  /-- UNIMPLEMENTED_DB (0xDB), R559. -/
  | unimplementedDB
  /-- UNIMPLEMENTED_DD (0xDD), R559. -/
  | unimplementedDD
  /-- RST 18H (0xDF), R511. -/
  | rst18
  /-- POP HL (0xE1), R253. -/
  | popHl
  /-- LD (C),A (0xE2), R215. -/
  | ldIndCA
  /-- UNIMPLEMENTED_E3 (0xE3), R559. -/
  | unimplementedE3
  /-- UNIMPLEMENTED_E4 (0xE4), R559. -/
  | unimplementedE4
  /-- PUSH HL (0xE5), R252. -/
  | pushHl
  /-- RST 20H (0xE7), R511. -/
  | rst20
  /-- JP HL (0xE9), R503. -/
  | jpHl
  /-- UNIMPLEMENTED_EB (0xEB), R559. -/
  | unimplementedEB
  /-- UNIMPLEMENTED_EC (0xEC), R559. -/
  | unimplementedEC
  /-- UNIMPLEMENTED_ED (0xED), R559. -/
  | unimplementedED
  /-- RST 28H (0xEF), R511. -/
  | rst28
  /-- POP AF (0xF1), R254. -/
  | popAf
  /-- LD A,(C) (0xF2), R214. -/
  | ldAIndC
  /-- DI (0xF3), R557. -/
  | di
  /-- UNIMPLEMENTED_F4 (0xF4), R559. -/
  | unimplementedF4
  /-- PUSH AF (0xF5), R252. -/
  | pushAf
  /-- RST 30H (0xF7), R511. -/
  | rst30
  /-- LD SP,HL (0xF9), R222. -/
  | ldSpHl
  /-- EI (0xFB), R558. -/
  | ei
  /-- UNIMPLEMENTED_FC (0xFC), R559. -/
  | unimplementedFC
  /-- UNIMPLEMENTED_FD (0xFD), R559. -/
  | unimplementedFD
  /-- RST 38H (0xFF), R511. -/
  | rst38
  /-- RLC B (0xCB 0x00), R405. -/
  | cbRlcB
  /-- RLC C (0xCB 0x01), R405. -/
  | cbRlcC
  /-- RLC D (0xCB 0x02), R405. -/
  | cbRlcD
  /-- RLC E (0xCB 0x03), R405. -/
  | cbRlcE
  /-- RLC H (0xCB 0x04), R405. -/
  | cbRlcH
  /-- RLC L (0xCB 0x05), R405. -/
  | cbRlcL
  /-- RLC (HL) (0xCB 0x06), R405. -/
  | cbRlcIndHl
  /-- RLC A (0xCB 0x07), R405. -/
  | cbRlcA
  /-- RRC B (0xCB 0x08), R406. -/
  | cbRrcB
  /-- RRC C (0xCB 0x09), R406. -/
  | cbRrcC
  /-- RRC D (0xCB 0x0A), R406. -/
  | cbRrcD
  /-- RRC E (0xCB 0x0B), R406. -/
  | cbRrcE
  /-- RRC H (0xCB 0x0C), R406. -/
  | cbRrcH
  /-- RRC L (0xCB 0x0D), R406. -/
  | cbRrcL
  /-- RRC (HL) (0xCB 0x0E), R406. -/
  | cbRrcIndHl
  /-- RRC A (0xCB 0x0F), R406. -/
  | cbRrcA
  /-- RL B (0xCB 0x10), R407. -/
  | cbRlB
  /-- RL C (0xCB 0x11), R407. -/
  | cbRlC
  /-- RL D (0xCB 0x12), R407. -/
  | cbRlD
  /-- RL E (0xCB 0x13), R407. -/
  | cbRlE
  /-- RL H (0xCB 0x14), R407. -/
  | cbRlH
  /-- RL L (0xCB 0x15), R407. -/
  | cbRlL
  /-- RL (HL) (0xCB 0x16), R407. -/
  | cbRlIndHl
  /-- RL A (0xCB 0x17), R407. -/
  | cbRlA
  /-- RR B (0xCB 0x18), R408. -/
  | cbRrB
  /-- RR C (0xCB 0x19), R408. -/
  | cbRrC
  /-- RR D (0xCB 0x1A), R408. -/
  | cbRrD
  /-- RR E (0xCB 0x1B), R408. -/
  | cbRrE
  /-- RR H (0xCB 0x1C), R408. -/
  | cbRrH
  /-- RR L (0xCB 0x1D), R408. -/
  | cbRrL
  /-- RR (HL) (0xCB 0x1E), R408. -/
  | cbRrIndHl
  /-- RR A (0xCB 0x1F), R408. -/
  | cbRrA
  /-- SLA B (0xCB 0x20), R409. -/
  | cbSlaB
  /-- SLA C (0xCB 0x21), R409. -/
  | cbSlaC
  /-- SLA D (0xCB 0x22), R409. -/
  | cbSlaD
  /-- SLA E (0xCB 0x23), R409. -/
  | cbSlaE
  /-- SLA H (0xCB 0x24), R409. -/
  | cbSlaH
  /-- SLA L (0xCB 0x25), R409. -/
  | cbSlaL
  /-- SLA (HL) (0xCB 0x26), R409. -/
  | cbSlaIndHl
  /-- SLA A (0xCB 0x27), R409. -/
  | cbSlaA
  /-- SRA B (0xCB 0x28), R410. -/
  | cbSraB
  /-- SRA C (0xCB 0x29), R410. -/
  | cbSraC
  /-- SRA D (0xCB 0x2A), R410. -/
  | cbSraD
  /-- SRA E (0xCB 0x2B), R410. -/
  | cbSraE
  /-- SRA H (0xCB 0x2C), R410. -/
  | cbSraH
  /-- SRA L (0xCB 0x2D), R410. -/
  | cbSraL
  /-- SRA (HL) (0xCB 0x2E), R410. -/
  | cbSraIndHl
  /-- SRA A (0xCB 0x2F), R410. -/
  | cbSraA
  /-- SWAP B (0xCB 0x30), R411. -/
  | cbSwapB
  /-- SWAP C (0xCB 0x31), R411. -/
  | cbSwapC
  /-- SWAP D (0xCB 0x32), R411. -/
  | cbSwapD
  /-- SWAP E (0xCB 0x33), R411. -/
  | cbSwapE
  /-- SWAP H (0xCB 0x34), R411. -/
  | cbSwapH
  /-- SWAP L (0xCB 0x35), R411. -/
  | cbSwapL
  /-- SWAP (HL) (0xCB 0x36), R411. -/
  | cbSwapIndHl
  /-- SWAP A (0xCB 0x37), R411. -/
  | cbSwapA
  /-- SRL B (0xCB 0x38), R412. -/
  | cbSrlB
  /-- SRL C (0xCB 0x39), R412. -/
  | cbSrlC
  /-- SRL D (0xCB 0x3A), R412. -/
  | cbSrlD
  /-- SRL E (0xCB 0x3B), R412. -/
  | cbSrlE
  /-- SRL H (0xCB 0x3C), R412. -/
  | cbSrlH
  /-- SRL L (0xCB 0x3D), R412. -/
  | cbSrlL
  /-- SRL (HL) (0xCB 0x3E), R412. -/
  | cbSrlIndHl
  /-- SRL A (0xCB 0x3F), R412. -/
  | cbSrlA
  /-- BIT 0,B (0xCB 0x40), R450. -/
  | cbBit0B
  /-- BIT 0,C (0xCB 0x41), R450. -/
  | cbBit0C
  /-- BIT 0,D (0xCB 0x42), R450. -/
  | cbBit0D
  /-- BIT 0,E (0xCB 0x43), R450. -/
  | cbBit0E
  /-- BIT 0,H (0xCB 0x44), R450. -/
  | cbBit0H
  /-- BIT 0,L (0xCB 0x45), R450. -/
  | cbBit0L
  /-- BIT 0,(HL) (0xCB 0x46), R450. -/
  | cbBit0IndHl
  /-- BIT 0,A (0xCB 0x47), R450. -/
  | cbBit0A
  /-- BIT 1,B (0xCB 0x48), R450. -/
  | cbBit1B
  /-- BIT 1,C (0xCB 0x49), R450. -/
  | cbBit1C
  /-- BIT 1,D (0xCB 0x4A), R450. -/
  | cbBit1D
  /-- BIT 1,E (0xCB 0x4B), R450. -/
  | cbBit1E
  /-- BIT 1,H (0xCB 0x4C), R450. -/
  | cbBit1H
  /-- BIT 1,L (0xCB 0x4D), R450. -/
  | cbBit1L
  /-- BIT 1,(HL) (0xCB 0x4E), R450. -/
  | cbBit1IndHl
  /-- BIT 1,A (0xCB 0x4F), R450. -/
  | cbBit1A
  /-- BIT 2,B (0xCB 0x50), R450. -/
  | cbBit2B
  /-- BIT 2,C (0xCB 0x51), R450. -/
  | cbBit2C
  /-- BIT 2,D (0xCB 0x52), R450. -/
  | cbBit2D
  /-- BIT 2,E (0xCB 0x53), R450. -/
  | cbBit2E
  /-- BIT 2,H (0xCB 0x54), R450. -/
  | cbBit2H
  /-- BIT 2,L (0xCB 0x55), R450. -/
  | cbBit2L
  /-- BIT 2,(HL) (0xCB 0x56), R450. -/
  | cbBit2IndHl
  /-- BIT 2,A (0xCB 0x57), R450. -/
  | cbBit2A
  /-- BIT 3,B (0xCB 0x58), R450. -/
  | cbBit3B
  /-- BIT 3,C (0xCB 0x59), R450. -/
  | cbBit3C
  /-- BIT 3,D (0xCB 0x5A), R450. -/
  | cbBit3D
  /-- BIT 3,E (0xCB 0x5B), R450. -/
  | cbBit3E
  /-- BIT 3,H (0xCB 0x5C), R450. -/
  | cbBit3H
  /-- BIT 3,L (0xCB 0x5D), R450. -/
  | cbBit3L
  /-- BIT 3,(HL) (0xCB 0x5E), R450. -/
  | cbBit3IndHl
  /-- BIT 3,A (0xCB 0x5F), R450. -/
  | cbBit3A
  /-- BIT 4,B (0xCB 0x60), R450. -/
  | cbBit4B
  /-- BIT 4,C (0xCB 0x61), R450. -/
  | cbBit4C
  /-- BIT 4,D (0xCB 0x62), R450. -/
  | cbBit4D
  /-- BIT 4,E (0xCB 0x63), R450. -/
  | cbBit4E
  /-- BIT 4,H (0xCB 0x64), R450. -/
  | cbBit4H
  /-- BIT 4,L (0xCB 0x65), R450. -/
  | cbBit4L
  /-- BIT 4,(HL) (0xCB 0x66), R450. -/
  | cbBit4IndHl
  /-- BIT 4,A (0xCB 0x67), R450. -/
  | cbBit4A
  /-- BIT 5,B (0xCB 0x68), R450. -/
  | cbBit5B
  /-- BIT 5,C (0xCB 0x69), R450. -/
  | cbBit5C
  /-- BIT 5,D (0xCB 0x6A), R450. -/
  | cbBit5D
  /-- BIT 5,E (0xCB 0x6B), R450. -/
  | cbBit5E
  /-- BIT 5,H (0xCB 0x6C), R450. -/
  | cbBit5H
  /-- BIT 5,L (0xCB 0x6D), R450. -/
  | cbBit5L
  /-- BIT 5,(HL) (0xCB 0x6E), R450. -/
  | cbBit5IndHl
  /-- BIT 5,A (0xCB 0x6F), R450. -/
  | cbBit5A
  /-- BIT 6,B (0xCB 0x70), R450. -/
  | cbBit6B
  /-- BIT 6,C (0xCB 0x71), R450. -/
  | cbBit6C
  /-- BIT 6,D (0xCB 0x72), R450. -/
  | cbBit6D
  /-- BIT 6,E (0xCB 0x73), R450. -/
  | cbBit6E
  /-- BIT 6,H (0xCB 0x74), R450. -/
  | cbBit6H
  /-- BIT 6,L (0xCB 0x75), R450. -/
  | cbBit6L
  /-- BIT 6,(HL) (0xCB 0x76), R450. -/
  | cbBit6IndHl
  /-- BIT 6,A (0xCB 0x77), R450. -/
  | cbBit6A
  /-- BIT 7,B (0xCB 0x78), R450. -/
  | cbBit7B
  /-- BIT 7,C (0xCB 0x79), R450. -/
  | cbBit7C
  /-- BIT 7,D (0xCB 0x7A), R450. -/
  | cbBit7D
  /-- BIT 7,E (0xCB 0x7B), R450. -/
  | cbBit7E
  /-- BIT 7,H (0xCB 0x7C), R450. -/
  | cbBit7H
  /-- BIT 7,L (0xCB 0x7D), R450. -/
  | cbBit7L
  /-- BIT 7,(HL) (0xCB 0x7E), R450. -/
  | cbBit7IndHl
  /-- BIT 7,A (0xCB 0x7F), R450. -/
  | cbBit7A
  /-- RES 0,B (0xCB 0x80), R451. -/
  | cbRes0B
  /-- RES 0,C (0xCB 0x81), R451. -/
  | cbRes0C
  /-- RES 0,D (0xCB 0x82), R451. -/
  | cbRes0D
  /-- RES 0,E (0xCB 0x83), R451. -/
  | cbRes0E
  /-- RES 0,H (0xCB 0x84), R451. -/
  | cbRes0H
  /-- RES 0,L (0xCB 0x85), R451. -/
  | cbRes0L
  /-- RES 0,(HL) (0xCB 0x86), R451. -/
  | cbRes0IndHl
  /-- RES 0,A (0xCB 0x87), R451. -/
  | cbRes0A
  /-- RES 1,B (0xCB 0x88), R451. -/
  | cbRes1B
  /-- RES 1,C (0xCB 0x89), R451. -/
  | cbRes1C
  /-- RES 1,D (0xCB 0x8A), R451. -/
  | cbRes1D
  /-- RES 1,E (0xCB 0x8B), R451. -/
  | cbRes1E
  /-- RES 1,H (0xCB 0x8C), R451. -/
  | cbRes1H
  /-- RES 1,L (0xCB 0x8D), R451. -/
  | cbRes1L
  /-- RES 1,(HL) (0xCB 0x8E), R451. -/
  | cbRes1IndHl
  /-- RES 1,A (0xCB 0x8F), R451. -/
  | cbRes1A
  /-- RES 2,B (0xCB 0x90), R451. -/
  | cbRes2B
  /-- RES 2,C (0xCB 0x91), R451. -/
  | cbRes2C
  /-- RES 2,D (0xCB 0x92), R451. -/
  | cbRes2D
  /-- RES 2,E (0xCB 0x93), R451. -/
  | cbRes2E
  /-- RES 2,H (0xCB 0x94), R451. -/
  | cbRes2H
  /-- RES 2,L (0xCB 0x95), R451. -/
  | cbRes2L
  /-- RES 2,(HL) (0xCB 0x96), R451. -/
  | cbRes2IndHl
  /-- RES 2,A (0xCB 0x97), R451. -/
  | cbRes2A
  /-- RES 3,B (0xCB 0x98), R451. -/
  | cbRes3B
  /-- RES 3,C (0xCB 0x99), R451. -/
  | cbRes3C
  /-- RES 3,D (0xCB 0x9A), R451. -/
  | cbRes3D
  /-- RES 3,E (0xCB 0x9B), R451. -/
  | cbRes3E
  /-- RES 3,H (0xCB 0x9C), R451. -/
  | cbRes3H
  /-- RES 3,L (0xCB 0x9D), R451. -/
  | cbRes3L
  /-- RES 3,(HL) (0xCB 0x9E), R451. -/
  | cbRes3IndHl
  /-- RES 3,A (0xCB 0x9F), R451. -/
  | cbRes3A
  /-- RES 4,B (0xCB 0xA0), R451. -/
  | cbRes4B
  /-- RES 4,C (0xCB 0xA1), R451. -/
  | cbRes4C
  /-- RES 4,D (0xCB 0xA2), R451. -/
  | cbRes4D
  /-- RES 4,E (0xCB 0xA3), R451. -/
  | cbRes4E
  /-- RES 4,H (0xCB 0xA4), R451. -/
  | cbRes4H
  /-- RES 4,L (0xCB 0xA5), R451. -/
  | cbRes4L
  /-- RES 4,(HL) (0xCB 0xA6), R451. -/
  | cbRes4IndHl
  /-- RES 4,A (0xCB 0xA7), R451. -/
  | cbRes4A
  /-- RES 5,B (0xCB 0xA8), R451. -/
  | cbRes5B
  /-- RES 5,C (0xCB 0xA9), R451. -/
  | cbRes5C
  /-- RES 5,D (0xCB 0xAA), R451. -/
  | cbRes5D
  /-- RES 5,E (0xCB 0xAB), R451. -/
  | cbRes5E
  /-- RES 5,H (0xCB 0xAC), R451. -/
  | cbRes5H
  /-- RES 5,L (0xCB 0xAD), R451. -/
  | cbRes5L
  /-- RES 5,(HL) (0xCB 0xAE), R451. -/
  | cbRes5IndHl
  /-- RES 5,A (0xCB 0xAF), R451. -/
  | cbRes5A
  /-- RES 6,B (0xCB 0xB0), R451. -/
  | cbRes6B
  /-- RES 6,C (0xCB 0xB1), R451. -/
  | cbRes6C
  /-- RES 6,D (0xCB 0xB2), R451. -/
  | cbRes6D
  /-- RES 6,E (0xCB 0xB3), R451. -/
  | cbRes6E
  /-- RES 6,H (0xCB 0xB4), R451. -/
  | cbRes6H
  /-- RES 6,L (0xCB 0xB5), R451. -/
  | cbRes6L
  /-- RES 6,(HL) (0xCB 0xB6), R451. -/
  | cbRes6IndHl
  /-- RES 6,A (0xCB 0xB7), R451. -/
  | cbRes6A
  /-- RES 7,B (0xCB 0xB8), R451. -/
  | cbRes7B
  /-- RES 7,C (0xCB 0xB9), R451. -/
  | cbRes7C
  /-- RES 7,D (0xCB 0xBA), R451. -/
  | cbRes7D
  /-- RES 7,E (0xCB 0xBB), R451. -/
  | cbRes7E
  /-- RES 7,H (0xCB 0xBC), R451. -/
  | cbRes7H
  /-- RES 7,L (0xCB 0xBD), R451. -/
  | cbRes7L
  /-- RES 7,(HL) (0xCB 0xBE), R451. -/
  | cbRes7IndHl
  /-- RES 7,A (0xCB 0xBF), R451. -/
  | cbRes7A
  /-- SET 0,B (0xCB 0xC0), R452. -/
  | cbSet0B
  /-- SET 0,C (0xCB 0xC1), R452. -/
  | cbSet0C
  /-- SET 0,D (0xCB 0xC2), R452. -/
  | cbSet0D
  /-- SET 0,E (0xCB 0xC3), R452. -/
  | cbSet0E
  /-- SET 0,H (0xCB 0xC4), R452. -/
  | cbSet0H
  /-- SET 0,L (0xCB 0xC5), R452. -/
  | cbSet0L
  /-- SET 0,(HL) (0xCB 0xC6), R452. -/
  | cbSet0IndHl
  /-- SET 0,A (0xCB 0xC7), R452. -/
  | cbSet0A
  /-- SET 1,B (0xCB 0xC8), R452. -/
  | cbSet1B
  /-- SET 1,C (0xCB 0xC9), R452. -/
  | cbSet1C
  /-- SET 1,D (0xCB 0xCA), R452. -/
  | cbSet1D
  /-- SET 1,E (0xCB 0xCB), R452. -/
  | cbSet1E
  /-- SET 1,H (0xCB 0xCC), R452. -/
  | cbSet1H
  /-- SET 1,L (0xCB 0xCD), R452. -/
  | cbSet1L
  /-- SET 1,(HL) (0xCB 0xCE), R452. -/
  | cbSet1IndHl
  /-- SET 1,A (0xCB 0xCF), R452. -/
  | cbSet1A
  /-- SET 2,B (0xCB 0xD0), R452. -/
  | cbSet2B
  /-- SET 2,C (0xCB 0xD1), R452. -/
  | cbSet2C
  /-- SET 2,D (0xCB 0xD2), R452. -/
  | cbSet2D
  /-- SET 2,E (0xCB 0xD3), R452. -/
  | cbSet2E
  /-- SET 2,H (0xCB 0xD4), R452. -/
  | cbSet2H
  /-- SET 2,L (0xCB 0xD5), R452. -/
  | cbSet2L
  /-- SET 2,(HL) (0xCB 0xD6), R452. -/
  | cbSet2IndHl
  /-- SET 2,A (0xCB 0xD7), R452. -/
  | cbSet2A
  /-- SET 3,B (0xCB 0xD8), R452. -/
  | cbSet3B
  /-- SET 3,C (0xCB 0xD9), R452. -/
  | cbSet3C
  /-- SET 3,D (0xCB 0xDA), R452. -/
  | cbSet3D
  /-- SET 3,E (0xCB 0xDB), R452. -/
  | cbSet3E
  /-- SET 3,H (0xCB 0xDC), R452. -/
  | cbSet3H
  /-- SET 3,L (0xCB 0xDD), R452. -/
  | cbSet3L
  /-- SET 3,(HL) (0xCB 0xDE), R452. -/
  | cbSet3IndHl
  /-- SET 3,A (0xCB 0xDF), R452. -/
  | cbSet3A
  /-- SET 4,B (0xCB 0xE0), R452. -/
  | cbSet4B
  /-- SET 4,C (0xCB 0xE1), R452. -/
  | cbSet4C
  /-- SET 4,D (0xCB 0xE2), R452. -/
  | cbSet4D
  /-- SET 4,E (0xCB 0xE3), R452. -/
  | cbSet4E
  /-- SET 4,H (0xCB 0xE4), R452. -/
  | cbSet4H
  /-- SET 4,L (0xCB 0xE5), R452. -/
  | cbSet4L
  /-- SET 4,(HL) (0xCB 0xE6), R452. -/
  | cbSet4IndHl
  /-- SET 4,A (0xCB 0xE7), R452. -/
  | cbSet4A
  /-- SET 5,B (0xCB 0xE8), R452. -/
  | cbSet5B
  /-- SET 5,C (0xCB 0xE9), R452. -/
  | cbSet5C
  /-- SET 5,D (0xCB 0xEA), R452. -/
  | cbSet5D
  /-- SET 5,E (0xCB 0xEB), R452. -/
  | cbSet5E
  /-- SET 5,H (0xCB 0xEC), R452. -/
  | cbSet5H
  /-- SET 5,L (0xCB 0xED), R452. -/
  | cbSet5L
  /-- SET 5,(HL) (0xCB 0xEE), R452. -/
  | cbSet5IndHl
  /-- SET 5,A (0xCB 0xEF), R452. -/
  | cbSet5A
  /-- SET 6,B (0xCB 0xF0), R452. -/
  | cbSet6B
  /-- SET 6,C (0xCB 0xF1), R452. -/
  | cbSet6C
  /-- SET 6,D (0xCB 0xF2), R452. -/
  | cbSet6D
  /-- SET 6,E (0xCB 0xF3), R452. -/
  | cbSet6E
  /-- SET 6,H (0xCB 0xF4), R452. -/
  | cbSet6H
  /-- SET 6,L (0xCB 0xF5), R452. -/
  | cbSet6L
  /-- SET 6,(HL) (0xCB 0xF6), R452. -/
  | cbSet6IndHl
  /-- SET 6,A (0xCB 0xF7), R452. -/
  | cbSet6A
  /-- SET 7,B (0xCB 0xF8), R452. -/
  | cbSet7B
  /-- SET 7,C (0xCB 0xF9), R452. -/
  | cbSet7C
  /-- SET 7,D (0xCB 0xFA), R452. -/
  | cbSet7D
  /-- SET 7,E (0xCB 0xFB), R452. -/
  | cbSet7E
  /-- SET 7,H (0xCB 0xFC), R452. -/
  | cbSet7H
  /-- SET 7,L (0xCB 0xFD), R452. -/
  | cbSet7L
  /-- SET 7,(HL) (0xCB 0xFE), R452. -/
  | cbSet7IndHl
  /-- SET 7,A (0xCB 0xFF), R452. -/
  | cbSet7A
  deriving DecidableEq, Repr

end Sys2Proof
end

