-- ==== Sys2Proof/WellFormed.lean ====
section
/-! DEFINITION. Which instruction terms are instructions. Every operand has the width its encoding gives it, so one check is left: the prefix marker is no instruction of its own. -/

namespace Sys2Proof

/-- Slot 0xCB of the unprefixed table is never dispatched (R126); every other slot is an instruction with any operand bytes (R127). -/
def Instr.wf (i : Instr) : Bool :=
  match i with
  | .prefixCb => false
  | _ => true

end Sys2Proof
end

