-- ==== Sys2Proof/Decode.lean ====
section
/-! DEFINITION. The decoder (30_encoding.md R112 to R127), by the fields of the opcode byte, and after it the opcode table and the encoder, by the rows of spec/opcode_table.json. -/

namespace Sys2Proof

/-! ## Bytes and words -/

/-- `hi:lo` (R10). -/
def wordOf (hi lo : Byte) : Word := hi ++ lo

/-- `v[7:0]`. -/
def lowByte (v : Word) : Byte := v.extractLsb' 0 8

/-- `v[15:8]`. -/
def highByte (v : Word) : Byte := v.extractLsb' 8 8

/-! ## Fields of an opcode byte (R112, R113) -/

/-- `op[7:6]`. -/
def fieldX (op : Byte) : Nat := op.toNat / 64

/-- `op[5:3]`. -/
def fieldY (op : Byte) : Nat := op.toNat / 8 % 8

/-- `op[2:0]`. -/
def fieldZ (op : Byte) : Nat := op.toNat % 8

/-- `op[5:4]`. -/
def fieldP (op : Byte) : Nat := op.toNat / 16 % 4

/-- `op[3]`. -/
def fieldQ (op : Byte) : Nat := op.toNat / 8 % 2

/-- The r field; its last value, 7, is A (R116). -/
def operandOf (k : Nat) : Operand8 :=
  match k with
  | 0 => .reg .b
  | 1 => .reg .c
  | 2 => .reg .d
  | 3 => .reg .e
  | 4 => .reg .h
  | 5 => .reg .l
  | 6 => .indHl
  | _ => .reg .a

/-- The rr field; its last value, 3, is SP (R117). -/
def pairOf (k : Nat) : Pair :=
  match k with
  | 0 => .bc
  | 1 => .de
  | 2 => .hl
  | _ => .sp

/-- The qq field; its last value, 3, is AF (R118). -/
def stackPairOf (k : Nat) : StackPair :=
  match k with
  | 0 => .bc
  | 1 => .de
  | 2 => .hl
  | _ => .af

/-- The cc field, the low two bits of y (R119). -/
def condOf (k : Nat) : Cond :=
  match k % 4 with
  | 0 => .nz
  | 1 => .z
  | 2 => .nc
  | _ => .c

/-- The ALU operation field; its last value, 7, is CP (R120). -/
def aluOf (k : Nat) : AluOp :=
  match k with
  | 0 => .add
  | 1 => .adc
  | 2 => .sub
  | 3 => .sbc
  | 4 => .and
  | 5 => .xor
  | 6 => .or
  | _ => .cp

/-- The rotate/shift field; its last value, 7, is SRL (R121). -/
def rotOf (k : Nat) : RotOp :=
  match k with
  | 0 => .rlc
  | 1 => .rrc
  | 2 => .rl
  | 3 => .rr
  | 4 => .sla
  | 5 => .sra
  | 6 => .swap
  | _ => .srl

/-- The bit index, or the RST vector index (R122). -/
def bitOf (k : Nat) : Fin 8 := Fin.ofNat 8 k

/-- The operand source that an r field gives an accumulator operation (R350). -/
def aluSrcOf : Operand8 → AluSrc
  | .reg r => .reg r
  | .indHl => .indHl

/-! ## The slot of an operation and its operands -/

/-- `LD r[y],r[z]`; with (HL) on both sides the slot is HALT (R123). -/
def mkLd (d : Operand8) (s : Operand8) : Instr :=
  match d, s with
  | .reg .b, .reg .b => .ldBB
  | .reg .b, .reg .c => .ldBC
  | .reg .b, .reg .d => .ldBD
  | .reg .b, .reg .e => .ldBE
  | .reg .b, .reg .h => .ldBH
  | .reg .b, .reg .l => .ldBL
  | .reg .b, .indHl => .ldBIndHl
  | .reg .b, .reg .a => .ldBA
  | .reg .c, .reg .b => .ldCB
  | .reg .c, .reg .c => .ldCC
  | .reg .c, .reg .d => .ldCD
  | .reg .c, .reg .e => .ldCE
  | .reg .c, .reg .h => .ldCH
  | .reg .c, .reg .l => .ldCL
  | .reg .c, .indHl => .ldCIndHl
  | .reg .c, .reg .a => .ldCA
  | .reg .d, .reg .b => .ldDB
  | .reg .d, .reg .c => .ldDC
  | .reg .d, .reg .d => .ldDD
  | .reg .d, .reg .e => .ldDE
  | .reg .d, .reg .h => .ldDH
  | .reg .d, .reg .l => .ldDL
  | .reg .d, .indHl => .ldDIndHl
  | .reg .d, .reg .a => .ldDA
  | .reg .e, .reg .b => .ldEB
  | .reg .e, .reg .c => .ldEC
  | .reg .e, .reg .d => .ldED
  | .reg .e, .reg .e => .ldEE
  | .reg .e, .reg .h => .ldEH
  | .reg .e, .reg .l => .ldEL
  | .reg .e, .indHl => .ldEIndHl
  | .reg .e, .reg .a => .ldEA
  | .reg .h, .reg .b => .ldHB
  | .reg .h, .reg .c => .ldHC
  | .reg .h, .reg .d => .ldHD
  | .reg .h, .reg .e => .ldHE
  | .reg .h, .reg .h => .ldHH
  | .reg .h, .reg .l => .ldHL
  | .reg .h, .indHl => .ldHIndHl
  | .reg .h, .reg .a => .ldHA
  | .reg .l, .reg .b => .ldLB
  | .reg .l, .reg .c => .ldLC
  | .reg .l, .reg .d => .ldLD
  | .reg .l, .reg .e => .ldLE
  | .reg .l, .reg .h => .ldLH
  | .reg .l, .reg .l => .ldLL
  | .reg .l, .indHl => .ldLIndHl
  | .reg .l, .reg .a => .ldLA
  | .indHl, .reg .b => .ldIndHlB
  | .indHl, .reg .c => .ldIndHlC
  | .indHl, .reg .d => .ldIndHlD
  | .indHl, .reg .e => .ldIndHlE
  | .indHl, .reg .h => .ldIndHlH
  | .indHl, .reg .l => .ldIndHlL
  | .indHl, .indHl => .halt
  | .indHl, .reg .a => .ldIndHlA
  | .reg .a, .reg .b => .ldAB
  | .reg .a, .reg .c => .ldAC
  | .reg .a, .reg .d => .ldAD
  | .reg .a, .reg .e => .ldAE
  | .reg .a, .reg .h => .ldAH
  | .reg .a, .reg .l => .ldAL
  | .reg .a, .indHl => .ldAIndHl
  | .reg .a, .reg .a => .ldAA

/-- `LD r[y],n8` (R204, R205). -/
def mkLdImm (d : Operand8) (n : Byte) : Instr :=
  match d with
  | .reg .b => .ldBN8 n
  | .reg .c => .ldCN8 n
  | .reg .d => .ldDN8 n
  | .reg .e => .ldEN8 n
  | .reg .h => .ldHN8 n
  | .reg .l => .ldLN8 n
  | .indHl => .ldIndHlN8 n
  | .reg .a => .ldAN8 n

/-- `INC r[y]` (R300, R301). -/
def mkInc (o : Operand8) : Instr :=
  match o with
  | .reg .b => .incB
  | .reg .c => .incC
  | .reg .d => .incD
  | .reg .e => .incE
  | .reg .h => .incH
  | .reg .l => .incL
  | .indHl => .incIndHl
  | .reg .a => .incA

/-- `DEC r[y]` (R302, R303). -/
def mkDec (o : Operand8) : Instr :=
  match o with
  | .reg .b => .decB
  | .reg .c => .decC
  | .reg .d => .decD
  | .reg .e => .decE
  | .reg .h => .decH
  | .reg .l => .decL
  | .indHl => .decIndHl
  | .reg .a => .decA

/-- `LD rr,n16` (R220). -/
def mkLdPairImm (p : Pair) (n : Word) : Instr :=
  match p with
  | .bc => .ldBcN16 n
  | .de => .ldDeN16 n
  | .hl => .ldHlN16 n
  | .sp => .ldSpN16 n

/-- `ADD HL,rr` (R361). -/
def mkAddHl (p : Pair) : Instr :=
  match p with
  | .bc => .addHlBc
  | .de => .addHlDe
  | .hl => .addHlHl
  | .sp => .addHlSp

/-- `INC rr` (R304). -/
def mkIncPair (p : Pair) : Instr :=
  match p with
  | .bc => .incBc
  | .de => .incDe
  | .hl => .incHl
  | .sp => .incSp

/-- `DEC rr` (R305). -/
def mkDecPair (p : Pair) : Instr :=
  match p with
  | .bc => .decBc
  | .de => .decDe
  | .hl => .decHl
  | .sp => .decSp

/-- `PUSH qq` (R252). -/
def mkPush (q : StackPair) : Instr :=
  match q with
  | .bc => .pushBc
  | .de => .pushDe
  | .hl => .pushHl
  | .af => .pushAf

/-- `POP qq` (R253, R254). -/
def mkPop (q : StackPair) : Instr :=
  match q with
  | .bc => .popBc
  | .de => .popDe
  | .hl => .popHl
  | .af => .popAf

/-- `alu[y] A,s` (R350, R353 to R360). -/
def mkAlu (op : AluOp) (s : AluSrc) : Instr :=
  match op, s with
  | .add, .reg .b => .addAB
  | .add, .reg .c => .addAC
  | .add, .reg .d => .addAD
  | .add, .reg .e => .addAE
  | .add, .reg .h => .addAH
  | .add, .reg .l => .addAL
  | .add, .indHl => .addAIndHl
  | .add, .reg .a => .addAA
  | .adc, .reg .b => .adcAB
  | .adc, .reg .c => .adcAC
  | .adc, .reg .d => .adcAD
  | .adc, .reg .e => .adcAE
  | .adc, .reg .h => .adcAH
  | .adc, .reg .l => .adcAL
  | .adc, .indHl => .adcAIndHl
  | .adc, .reg .a => .adcAA
  | .sub, .reg .b => .subAB
  | .sub, .reg .c => .subAC
  | .sub, .reg .d => .subAD
  | .sub, .reg .e => .subAE
  | .sub, .reg .h => .subAH
  | .sub, .reg .l => .subAL
  | .sub, .indHl => .subAIndHl
  | .sub, .reg .a => .subAA
  | .sbc, .reg .b => .sbcAB
  | .sbc, .reg .c => .sbcAC
  | .sbc, .reg .d => .sbcAD
  | .sbc, .reg .e => .sbcAE
  | .sbc, .reg .h => .sbcAH
  | .sbc, .reg .l => .sbcAL
  | .sbc, .indHl => .sbcAIndHl
  | .sbc, .reg .a => .sbcAA
  | .and, .reg .b => .andAB
  | .and, .reg .c => .andAC
  | .and, .reg .d => .andAD
  | .and, .reg .e => .andAE
  | .and, .reg .h => .andAH
  | .and, .reg .l => .andAL
  | .and, .indHl => .andAIndHl
  | .and, .reg .a => .andAA
  | .xor, .reg .b => .xorAB
  | .xor, .reg .c => .xorAC
  | .xor, .reg .d => .xorAD
  | .xor, .reg .e => .xorAE
  | .xor, .reg .h => .xorAH
  | .xor, .reg .l => .xorAL
  | .xor, .indHl => .xorAIndHl
  | .xor, .reg .a => .xorAA
  | .or, .reg .b => .orAB
  | .or, .reg .c => .orAC
  | .or, .reg .d => .orAD
  | .or, .reg .e => .orAE
  | .or, .reg .h => .orAH
  | .or, .reg .l => .orAL
  | .or, .indHl => .orAIndHl
  | .or, .reg .a => .orAA
  | .cp, .reg .b => .cpAB
  | .cp, .reg .c => .cpAC
  | .cp, .reg .d => .cpAD
  | .cp, .reg .e => .cpAE
  | .cp, .reg .h => .cpAH
  | .cp, .reg .l => .cpAL
  | .cp, .indHl => .cpAIndHl
  | .cp, .reg .a => .cpAA
  | .add, .imm n => .addAN8 n
  | .adc, .imm n => .adcAN8 n
  | .sub, .imm n => .subAN8 n
  | .sbc, .imm n => .sbcAN8 n
  | .and, .imm n => .andAN8 n
  | .xor, .imm n => .xorAN8 n
  | .or, .imm n => .orAN8 n
  | .cp, .imm n => .cpAN8 n

/-- `rot[y] r[z]`, prefixed (R124, R405 to R412). -/
def mkRot (op : RotOp) (o : Operand8) : Instr :=
  match op, o with
  | .rlc, .reg .b => .cbRlcB
  | .rlc, .reg .c => .cbRlcC
  | .rlc, .reg .d => .cbRlcD
  | .rlc, .reg .e => .cbRlcE
  | .rlc, .reg .h => .cbRlcH
  | .rlc, .reg .l => .cbRlcL
  | .rlc, .indHl => .cbRlcIndHl
  | .rlc, .reg .a => .cbRlcA
  | .rrc, .reg .b => .cbRrcB
  | .rrc, .reg .c => .cbRrcC
  | .rrc, .reg .d => .cbRrcD
  | .rrc, .reg .e => .cbRrcE
  | .rrc, .reg .h => .cbRrcH
  | .rrc, .reg .l => .cbRrcL
  | .rrc, .indHl => .cbRrcIndHl
  | .rrc, .reg .a => .cbRrcA
  | .rl, .reg .b => .cbRlB
  | .rl, .reg .c => .cbRlC
  | .rl, .reg .d => .cbRlD
  | .rl, .reg .e => .cbRlE
  | .rl, .reg .h => .cbRlH
  | .rl, .reg .l => .cbRlL
  | .rl, .indHl => .cbRlIndHl
  | .rl, .reg .a => .cbRlA
  | .rr, .reg .b => .cbRrB
  | .rr, .reg .c => .cbRrC
  | .rr, .reg .d => .cbRrD
  | .rr, .reg .e => .cbRrE
  | .rr, .reg .h => .cbRrH
  | .rr, .reg .l => .cbRrL
  | .rr, .indHl => .cbRrIndHl
  | .rr, .reg .a => .cbRrA
  | .sla, .reg .b => .cbSlaB
  | .sla, .reg .c => .cbSlaC
  | .sla, .reg .d => .cbSlaD
  | .sla, .reg .e => .cbSlaE
  | .sla, .reg .h => .cbSlaH
  | .sla, .reg .l => .cbSlaL
  | .sla, .indHl => .cbSlaIndHl
  | .sla, .reg .a => .cbSlaA
  | .sra, .reg .b => .cbSraB
  | .sra, .reg .c => .cbSraC
  | .sra, .reg .d => .cbSraD
  | .sra, .reg .e => .cbSraE
  | .sra, .reg .h => .cbSraH
  | .sra, .reg .l => .cbSraL
  | .sra, .indHl => .cbSraIndHl
  | .sra, .reg .a => .cbSraA
  | .swap, .reg .b => .cbSwapB
  | .swap, .reg .c => .cbSwapC
  | .swap, .reg .d => .cbSwapD
  | .swap, .reg .e => .cbSwapE
  | .swap, .reg .h => .cbSwapH
  | .swap, .reg .l => .cbSwapL
  | .swap, .indHl => .cbSwapIndHl
  | .swap, .reg .a => .cbSwapA
  | .srl, .reg .b => .cbSrlB
  | .srl, .reg .c => .cbSrlC
  | .srl, .reg .d => .cbSrlD
  | .srl, .reg .e => .cbSrlE
  | .srl, .reg .h => .cbSrlH
  | .srl, .reg .l => .cbSrlL
  | .srl, .indHl => .cbSrlIndHl
  | .srl, .reg .a => .cbSrlA

/-- `BIT b,r`, prefixed (R450). -/
def mkBit (b : Fin 8) (o : Operand8) : Instr :=
  match b, o with
  | 0, .reg .b => .cbBit0B
  | 0, .reg .c => .cbBit0C
  | 0, .reg .d => .cbBit0D
  | 0, .reg .e => .cbBit0E
  | 0, .reg .h => .cbBit0H
  | 0, .reg .l => .cbBit0L
  | 0, .indHl => .cbBit0IndHl
  | 0, .reg .a => .cbBit0A
  | 1, .reg .b => .cbBit1B
  | 1, .reg .c => .cbBit1C
  | 1, .reg .d => .cbBit1D
  | 1, .reg .e => .cbBit1E
  | 1, .reg .h => .cbBit1H
  | 1, .reg .l => .cbBit1L
  | 1, .indHl => .cbBit1IndHl
  | 1, .reg .a => .cbBit1A
  | 2, .reg .b => .cbBit2B
  | 2, .reg .c => .cbBit2C
  | 2, .reg .d => .cbBit2D
  | 2, .reg .e => .cbBit2E
  | 2, .reg .h => .cbBit2H
  | 2, .reg .l => .cbBit2L
  | 2, .indHl => .cbBit2IndHl
  | 2, .reg .a => .cbBit2A
  | 3, .reg .b => .cbBit3B
  | 3, .reg .c => .cbBit3C
  | 3, .reg .d => .cbBit3D
  | 3, .reg .e => .cbBit3E
  | 3, .reg .h => .cbBit3H
  | 3, .reg .l => .cbBit3L
  | 3, .indHl => .cbBit3IndHl
  | 3, .reg .a => .cbBit3A
  | 4, .reg .b => .cbBit4B
  | 4, .reg .c => .cbBit4C
  | 4, .reg .d => .cbBit4D
  | 4, .reg .e => .cbBit4E
  | 4, .reg .h => .cbBit4H
  | 4, .reg .l => .cbBit4L
  | 4, .indHl => .cbBit4IndHl
  | 4, .reg .a => .cbBit4A
  | 5, .reg .b => .cbBit5B
  | 5, .reg .c => .cbBit5C
  | 5, .reg .d => .cbBit5D
  | 5, .reg .e => .cbBit5E
  | 5, .reg .h => .cbBit5H
  | 5, .reg .l => .cbBit5L
  | 5, .indHl => .cbBit5IndHl
  | 5, .reg .a => .cbBit5A
  | 6, .reg .b => .cbBit6B
  | 6, .reg .c => .cbBit6C
  | 6, .reg .d => .cbBit6D
  | 6, .reg .e => .cbBit6E
  | 6, .reg .h => .cbBit6H
  | 6, .reg .l => .cbBit6L
  | 6, .indHl => .cbBit6IndHl
  | 6, .reg .a => .cbBit6A
  | 7, .reg .b => .cbBit7B
  | 7, .reg .c => .cbBit7C
  | 7, .reg .d => .cbBit7D
  | 7, .reg .e => .cbBit7E
  | 7, .reg .h => .cbBit7H
  | 7, .reg .l => .cbBit7L
  | 7, .indHl => .cbBit7IndHl
  | 7, .reg .a => .cbBit7A

/-- `RES b,r`, prefixed (R451). -/
def mkRes (b : Fin 8) (o : Operand8) : Instr :=
  match b, o with
  | 0, .reg .b => .cbRes0B
  | 0, .reg .c => .cbRes0C
  | 0, .reg .d => .cbRes0D
  | 0, .reg .e => .cbRes0E
  | 0, .reg .h => .cbRes0H
  | 0, .reg .l => .cbRes0L
  | 0, .indHl => .cbRes0IndHl
  | 0, .reg .a => .cbRes0A
  | 1, .reg .b => .cbRes1B
  | 1, .reg .c => .cbRes1C
  | 1, .reg .d => .cbRes1D
  | 1, .reg .e => .cbRes1E
  | 1, .reg .h => .cbRes1H
  | 1, .reg .l => .cbRes1L
  | 1, .indHl => .cbRes1IndHl
  | 1, .reg .a => .cbRes1A
  | 2, .reg .b => .cbRes2B
  | 2, .reg .c => .cbRes2C
  | 2, .reg .d => .cbRes2D
  | 2, .reg .e => .cbRes2E
  | 2, .reg .h => .cbRes2H
  | 2, .reg .l => .cbRes2L
  | 2, .indHl => .cbRes2IndHl
  | 2, .reg .a => .cbRes2A
  | 3, .reg .b => .cbRes3B
  | 3, .reg .c => .cbRes3C
  | 3, .reg .d => .cbRes3D
  | 3, .reg .e => .cbRes3E
  | 3, .reg .h => .cbRes3H
  | 3, .reg .l => .cbRes3L
  | 3, .indHl => .cbRes3IndHl
  | 3, .reg .a => .cbRes3A
  | 4, .reg .b => .cbRes4B
  | 4, .reg .c => .cbRes4C
  | 4, .reg .d => .cbRes4D
  | 4, .reg .e => .cbRes4E
  | 4, .reg .h => .cbRes4H
  | 4, .reg .l => .cbRes4L
  | 4, .indHl => .cbRes4IndHl
  | 4, .reg .a => .cbRes4A
  | 5, .reg .b => .cbRes5B
  | 5, .reg .c => .cbRes5C
  | 5, .reg .d => .cbRes5D
  | 5, .reg .e => .cbRes5E
  | 5, .reg .h => .cbRes5H
  | 5, .reg .l => .cbRes5L
  | 5, .indHl => .cbRes5IndHl
  | 5, .reg .a => .cbRes5A
  | 6, .reg .b => .cbRes6B
  | 6, .reg .c => .cbRes6C
  | 6, .reg .d => .cbRes6D
  | 6, .reg .e => .cbRes6E
  | 6, .reg .h => .cbRes6H
  | 6, .reg .l => .cbRes6L
  | 6, .indHl => .cbRes6IndHl
  | 6, .reg .a => .cbRes6A
  | 7, .reg .b => .cbRes7B
  | 7, .reg .c => .cbRes7C
  | 7, .reg .d => .cbRes7D
  | 7, .reg .e => .cbRes7E
  | 7, .reg .h => .cbRes7H
  | 7, .reg .l => .cbRes7L
  | 7, .indHl => .cbRes7IndHl
  | 7, .reg .a => .cbRes7A

/-- `SET b,r`, prefixed (R452). -/
def mkSet (b : Fin 8) (o : Operand8) : Instr :=
  match b, o with
  | 0, .reg .b => .cbSet0B
  | 0, .reg .c => .cbSet0C
  | 0, .reg .d => .cbSet0D
  | 0, .reg .e => .cbSet0E
  | 0, .reg .h => .cbSet0H
  | 0, .reg .l => .cbSet0L
  | 0, .indHl => .cbSet0IndHl
  | 0, .reg .a => .cbSet0A
  | 1, .reg .b => .cbSet1B
  | 1, .reg .c => .cbSet1C
  | 1, .reg .d => .cbSet1D
  | 1, .reg .e => .cbSet1E
  | 1, .reg .h => .cbSet1H
  | 1, .reg .l => .cbSet1L
  | 1, .indHl => .cbSet1IndHl
  | 1, .reg .a => .cbSet1A
  | 2, .reg .b => .cbSet2B
  | 2, .reg .c => .cbSet2C
  | 2, .reg .d => .cbSet2D
  | 2, .reg .e => .cbSet2E
  | 2, .reg .h => .cbSet2H
  | 2, .reg .l => .cbSet2L
  | 2, .indHl => .cbSet2IndHl
  | 2, .reg .a => .cbSet2A
  | 3, .reg .b => .cbSet3B
  | 3, .reg .c => .cbSet3C
  | 3, .reg .d => .cbSet3D
  | 3, .reg .e => .cbSet3E
  | 3, .reg .h => .cbSet3H
  | 3, .reg .l => .cbSet3L
  | 3, .indHl => .cbSet3IndHl
  | 3, .reg .a => .cbSet3A
  | 4, .reg .b => .cbSet4B
  | 4, .reg .c => .cbSet4C
  | 4, .reg .d => .cbSet4D
  | 4, .reg .e => .cbSet4E
  | 4, .reg .h => .cbSet4H
  | 4, .reg .l => .cbSet4L
  | 4, .indHl => .cbSet4IndHl
  | 4, .reg .a => .cbSet4A
  | 5, .reg .b => .cbSet5B
  | 5, .reg .c => .cbSet5C
  | 5, .reg .d => .cbSet5D
  | 5, .reg .e => .cbSet5E
  | 5, .reg .h => .cbSet5H
  | 5, .reg .l => .cbSet5L
  | 5, .indHl => .cbSet5IndHl
  | 5, .reg .a => .cbSet5A
  | 6, .reg .b => .cbSet6B
  | 6, .reg .c => .cbSet6C
  | 6, .reg .d => .cbSet6D
  | 6, .reg .e => .cbSet6E
  | 6, .reg .h => .cbSet6H
  | 6, .reg .l => .cbSet6L
  | 6, .indHl => .cbSet6IndHl
  | 6, .reg .a => .cbSet6A
  | 7, .reg .b => .cbSet7B
  | 7, .reg .c => .cbSet7C
  | 7, .reg .d => .cbSet7D
  | 7, .reg .e => .cbSet7E
  | 7, .reg .h => .cbSet7H
  | 7, .reg .l => .cbSet7L
  | 7, .indHl => .cbSet7IndHl
  | 7, .reg .a => .cbSet7A

/-- `JR cc,e8` (R505). -/
def mkJr (cc : Cond) (e : Byte) : Instr :=
  match cc with
  | .nz => .jrNzE8 e
  | .z => .jrZE8 e
  | .nc => .jrNcE8 e
  | .c => .jrCE8 e

/-- `JP cc,a16` (R502). -/
def mkJp (cc : Cond) (addr : Word) : Instr :=
  match cc with
  | .nz => .jpNzA16 addr
  | .z => .jpZA16 addr
  | .nc => .jpNcA16 addr
  | .c => .jpCA16 addr

/-- `CALL cc,a16` (R507). -/
def mkCall (cc : Cond) (addr : Word) : Instr :=
  match cc with
  | .nz => .callNzA16 addr
  | .z => .callZA16 addr
  | .nc => .callNcA16 addr
  | .c => .callCA16 addr

/-- `RET cc` (R509). -/
def mkRet (cc : Cond) : Instr :=
  match cc with
  | .nz => .retNz
  | .z => .retZ
  | .nc => .retNc
  | .c => .retC

/-- `RST vec`, by the vector index (R122, R511). -/
def mkRst (v : Fin 8) : Instr :=
  match v with
  | 0 => .rst00
  | 1 => .rst08
  | 2 => .rst10
  | 3 => .rst18
  | 4 => .rst20
  | 5 => .rst28
  | 6 => .rst30
  | 7 => .rst38

/-! ## The opcode map (R123, R124) -/

/-- Block x = 0 of the unprefixed opcodes; `n1` and `n2` are the bytes after the opcode. -/
def decodeBlock0 (op n1 n2 : Byte) : Instr :=
  let n16 := wordOf n2 n1
  match fieldZ op with
  | 0 =>
    match fieldY op with
    | 0 => .nop
    | 1 => .ldIndA16Sp n16
    | 2 => .stop n1
    | 3 => .jrE8 n1
    | y => mkJr (condOf y) n1
  | 1 => if fieldQ op = 0 then mkLdPairImm (pairOf (fieldP op)) n16 else mkAddHl (pairOf (fieldP op))
  | 2 =>
    match fieldQ op, fieldP op with
    | 0, 0 => .ldIndBcA
    | 0, 1 => .ldIndDeA
    | 0, 2 => .ldIndHlIncA
    | 0, _ => .ldIndHlDecA
    | _, 0 => .ldAIndBc
    | _, 1 => .ldAIndDe
    | _, 2 => .ldAIndHlInc
    | _, _ => .ldAIndHlDec
  | 3 => if fieldQ op = 0 then mkIncPair (pairOf (fieldP op)) else mkDecPair (pairOf (fieldP op))
  | 4 => mkInc (operandOf (fieldY op))
  | 5 => mkDec (operandOf (fieldY op))
  | 6 => mkLdImm (operandOf (fieldY op)) n1
  | _ =>
    match fieldY op with
    | 0 => .rlca
    | 1 => .rrca
    | 2 => .rla
    | 3 => .rra
    | 4 => .daa
    | 5 => .cpl
    | 6 => .scf
    | _ => .ccf

/-- A prefixed second byte: all 256 are defined (R124). -/
def decodePrefixed (op2 : Byte) : Instr :=
  let o := operandOf (fieldZ op2)
  match fieldX op2 with
  | 0 => mkRot (rotOf (fieldY op2)) o
  | 1 => mkBit (bitOf (fieldY op2)) o
  | 2 => mkRes (bitOf (fieldY op2)) o
  | _ => mkSet (bitOf (fieldY op2)) o

/-- Block x = 3; the byte 0xCB selects the prefixed table by the byte after it (R126, R142). -/
def decodeBlock3 (op n1 n2 : Byte) : Instr :=
  let n16 := wordOf n2 n1
  match fieldZ op with
  | 0 =>
    match fieldY op with
    | 4 => .ldhIndA8A n1
    | 5 => .addSpE8 n1
    | 6 => .ldhAIndA8 n1
    | 7 => .ldHlSpE8 n1
    | y => mkRet (condOf y)
  | 1 =>
    match fieldQ op, fieldP op with
    | 0, p => mkPop (stackPairOf p)
    | _, 0 => .ret
    | _, 1 => .reti
    | _, 2 => .jpHl
    | _, _ => .ldSpHl
  | 2 =>
    match fieldY op with
    | 4 => .ldIndCA
    | 5 => .ldIndA16A n16
    | 6 => .ldAIndC
    | 7 => .ldAIndA16 n16
    | y => mkJp (condOf y) n16
  | 3 =>
    match fieldY op with
    | 0 => .jpA16 n16
    | 1 => decodePrefixed n1
    | 2 => .unimplementedD3
    | 3 => .unimplementedDB
    | 4 => .unimplementedE3
    | 5 => .unimplementedEB
    | 6 => .di
    | _ => .ei
  | 4 =>
    match fieldY op with
    | 4 => .unimplementedE4
    | 5 => .unimplementedEC
    | 6 => .unimplementedF4
    | 7 => .unimplementedFC
    | y => mkCall (condOf y) n16
  | 5 =>
    match fieldQ op, fieldP op with
    | 0, p => mkPush (stackPairOf p)
    | _, 0 => .callA16 n16
    | _, 1 => .unimplementedDD
    | _, 2 => .unimplementedED
    | _, _ => .unimplementedFD
  | 6 => mkAlu (aluOf (fieldY op)) (.imm n1)
  | _ => mkRst (bitOf (fieldY op))

/-- The instruction that starts with these three bytes; those beyond its length are not used (R111, R123). -/
def decodeBytes (op n1 n2 : Byte) : Instr :=
  match fieldX op with
  | 0 => decodeBlock0 op n1 n2
  | 1 => mkLd (operandOf (fieldY op)) (operandOf (fieldZ op))
  | 2 => mkAlu (aluOf (fieldY op)) (aluSrcOf (operandOf (fieldZ op)))
  | _ => decodeBlock3 op n1 n2

/-! ## The decode table (R128), row by row as spec/opcode_table.json has it -/

/-- What the table's flags column says of one flag. -/
inductive FlagEffect where
  /-- "-": the flag keeps its value. -/
  | keep
  /-- "0". -/
  | clear
  /-- "1". -/
  | set
  /-- The flag is computed. -/
  | computed
  deriving DecidableEq, Repr

/-- The mnemonics of the decode table (R128), in the spelling of R130; PREFIX is that of the marker (R126). -/
inductive Mnemonic where
  | nop
  | ld
  | inc
  | dec
  | rlca
  | add
  | rrca
  | stop
  | rla
  | jr
  | rra
  | daa
  | cpl
  | scf
  | ccf
  | halt
  | adc
  | sub
  | sbc
  | and
  | xor
  | or
  | cp
  | ret
  | pop
  | jp
  | call
  | push
  | rst
  | prefixMarker
  | reti
  | ldh
  | di
  | ei
  | rlc
  | rrc
  | rl
  | rr
  | sla
  | sra
  | swap
  | srl
  | bit
  | res
  | set
  deriving DecidableEq, Repr

/-- What an operand descriptor names: a register, an immediate, a condition, a bit index or a vector (R130). -/
inductive OperandName where
  /-- A, B, C, D, E, H or L. -/
  | reg (r : Reg8)
  /-- BC, DE, HL or SP. -/
  | pair (p : Pair)
  /-- AF. -/
  | af
  | n8
  | n16
  | a8
  | a16
  | e8
  /-- SP+e8. -/
  | spE8
  | cond (cc : Cond)
  /-- 0 to 7. -/
  | bit (b : Fin 8)
  /-- The RST vector 8 * k, written 00H to 38H. -/
  | vector (k : Fin 8)
  /-- STOP's second byte, which no spelling shows (R556). -/
  | ignored
  deriving DecidableEq, Repr

/-- The automatic step of an address register: none, (HL+), (HL-) (R78). -/
inductive AutoStep where
  | none
  | increment
  | decrement
  deriving DecidableEq, Repr

/-- An operand descriptor: what is named, whether it denotes a memory address, and the automatic step (R128). -/
structure OperandDescriptor where
  name : OperandName
  isAddress : Bool
  autoStep : AutoStep
  deriving DecidableEq, Repr

/-- The descriptor of an operand that is the named thing itself. -/
abbrev OperandDescriptor.value (name : OperandName) : OperandDescriptor := ⟨name, false, .none⟩

/-- The descriptor of an operand in memory at the address that is named. -/
abbrev OperandDescriptor.address (name : OperandName) (autoStep : AutoStep := .none) : OperandDescriptor :=
  ⟨name, true, autoStep⟩

/-- An entry of the decode table: slot, mnemonic, operand descriptors, byte length, declared cycle costs, flag effects (R128, R129).
The routine bound to the slot is the instruction's arm of `exec`.
An unimplemented slot has no mnemonic (R125), no operand and no declared cost (opcode_table.json; R559).
Mnemonic and descriptors are read from the table's spelling (log 14). -/
structure Row where
  slot : Nat
  mnemonic : Option Mnemonic
  operands : List OperandDescriptor
  bytes : Nat
  cycles : List Nat
  z : FlagEffect
  n : FlagEffect
  h : FlagEffect
  c : FlagEffect
  deriving DecidableEq, Repr

/-- The row of an instruction (R128, R132). -/
def Instr.row : Instr → Row
  | .nop => ⟨0, some .nop, [], 1, [4], .keep, .keep, .keep, .keep⟩
  | .ldBcN16 _ => ⟨1, some .ld, [.value (.pair .bc), .value .n16], 3, [12], .keep, .keep, .keep, .keep⟩
  | .ldIndBcA => ⟨2, some .ld, [.address (.pair .bc), .value (.reg .a)], 1, [8], .keep, .keep, .keep, .keep⟩
  | .incBc => ⟨3, some .inc, [.value (.pair .bc)], 1, [8], .keep, .keep, .keep, .keep⟩
  | .incB => ⟨4, some .inc, [.value (.reg .b)], 1, [4], .computed, .clear, .computed, .keep⟩
  | .decB => ⟨5, some .dec, [.value (.reg .b)], 1, [4], .computed, .set, .computed, .keep⟩
  | .ldBN8 _ => ⟨6, some .ld, [.value (.reg .b), .value .n8], 2, [8], .keep, .keep, .keep, .keep⟩
  | .rlca => ⟨7, some .rlca, [], 1, [4], .clear, .clear, .clear, .computed⟩
  | .ldIndA16Sp _ => ⟨8, some .ld, [.address .a16, .value (.pair .sp)], 3, [20], .keep, .keep, .keep, .keep⟩
  | .addHlBc => ⟨9, some .add, [.value (.pair .hl), .value (.pair .bc)], 1, [8], .keep, .clear, .computed, .computed⟩
  | .ldAIndBc => ⟨10, some .ld, [.value (.reg .a), .address (.pair .bc)], 1, [8], .keep, .keep, .keep, .keep⟩
  | .decBc => ⟨11, some .dec, [.value (.pair .bc)], 1, [8], .keep, .keep, .keep, .keep⟩
  | .incC => ⟨12, some .inc, [.value (.reg .c)], 1, [4], .computed, .clear, .computed, .keep⟩
  | .decC => ⟨13, some .dec, [.value (.reg .c)], 1, [4], .computed, .set, .computed, .keep⟩
  | .ldCN8 _ => ⟨14, some .ld, [.value (.reg .c), .value .n8], 2, [8], .keep, .keep, .keep, .keep⟩
  | .rrca => ⟨15, some .rrca, [], 1, [4], .clear, .clear, .clear, .computed⟩
  | .stop _ => ⟨16, some .stop, [.value .ignored], 2, [4], .keep, .keep, .keep, .keep⟩
  | .ldDeN16 _ => ⟨17, some .ld, [.value (.pair .de), .value .n16], 3, [12], .keep, .keep, .keep, .keep⟩
  | .ldIndDeA => ⟨18, some .ld, [.address (.pair .de), .value (.reg .a)], 1, [8], .keep, .keep, .keep, .keep⟩
  | .incDe => ⟨19, some .inc, [.value (.pair .de)], 1, [8], .keep, .keep, .keep, .keep⟩
  | .incD => ⟨20, some .inc, [.value (.reg .d)], 1, [4], .computed, .clear, .computed, .keep⟩
  | .decD => ⟨21, some .dec, [.value (.reg .d)], 1, [4], .computed, .set, .computed, .keep⟩
  | .ldDN8 _ => ⟨22, some .ld, [.value (.reg .d), .value .n8], 2, [8], .keep, .keep, .keep, .keep⟩
  | .rla => ⟨23, some .rla, [], 1, [4], .clear, .clear, .clear, .computed⟩
  | .jrE8 _ => ⟨24, some .jr, [.value .e8], 2, [12], .keep, .keep, .keep, .keep⟩
  | .addHlDe => ⟨25, some .add, [.value (.pair .hl), .value (.pair .de)], 1, [8], .keep, .clear, .computed, .computed⟩
  | .ldAIndDe => ⟨26, some .ld, [.value (.reg .a), .address (.pair .de)], 1, [8], .keep, .keep, .keep, .keep⟩
  | .decDe => ⟨27, some .dec, [.value (.pair .de)], 1, [8], .keep, .keep, .keep, .keep⟩
  | .incE => ⟨28, some .inc, [.value (.reg .e)], 1, [4], .computed, .clear, .computed, .keep⟩
  | .decE => ⟨29, some .dec, [.value (.reg .e)], 1, [4], .computed, .set, .computed, .keep⟩
  | .ldEN8 _ => ⟨30, some .ld, [.value (.reg .e), .value .n8], 2, [8], .keep, .keep, .keep, .keep⟩
  | .rra => ⟨31, some .rra, [], 1, [4], .clear, .clear, .clear, .computed⟩
  | .jrNzE8 _ => ⟨32, some .jr, [.value (.cond .nz), .value .e8], 2, [12, 8], .keep, .keep, .keep, .keep⟩
  | .ldHlN16 _ => ⟨33, some .ld, [.value (.pair .hl), .value .n16], 3, [12], .keep, .keep, .keep, .keep⟩
  | .ldIndHlIncA => ⟨34, some .ld, [.address (.pair .hl) .increment, .value (.reg .a)], 1, [8], .keep, .keep, .keep, .keep⟩
  | .incHl => ⟨35, some .inc, [.value (.pair .hl)], 1, [8], .keep, .keep, .keep, .keep⟩
  | .incH => ⟨36, some .inc, [.value (.reg .h)], 1, [4], .computed, .clear, .computed, .keep⟩
  | .decH => ⟨37, some .dec, [.value (.reg .h)], 1, [4], .computed, .set, .computed, .keep⟩
  | .ldHN8 _ => ⟨38, some .ld, [.value (.reg .h), .value .n8], 2, [8], .keep, .keep, .keep, .keep⟩
  | .daa => ⟨39, some .daa, [], 1, [4], .computed, .keep, .clear, .computed⟩
  | .jrZE8 _ => ⟨40, some .jr, [.value (.cond .z), .value .e8], 2, [12, 8], .keep, .keep, .keep, .keep⟩
  | .addHlHl => ⟨41, some .add, [.value (.pair .hl), .value (.pair .hl)], 1, [8], .keep, .clear, .computed, .computed⟩
  | .ldAIndHlInc => ⟨42, some .ld, [.value (.reg .a), .address (.pair .hl) .increment], 1, [8], .keep, .keep, .keep, .keep⟩
  | .decHl => ⟨43, some .dec, [.value (.pair .hl)], 1, [8], .keep, .keep, .keep, .keep⟩
  | .incL => ⟨44, some .inc, [.value (.reg .l)], 1, [4], .computed, .clear, .computed, .keep⟩
  | .decL => ⟨45, some .dec, [.value (.reg .l)], 1, [4], .computed, .set, .computed, .keep⟩
  | .ldLN8 _ => ⟨46, some .ld, [.value (.reg .l), .value .n8], 2, [8], .keep, .keep, .keep, .keep⟩
  | .cpl => ⟨47, some .cpl, [], 1, [4], .keep, .set, .set, .keep⟩
  | .jrNcE8 _ => ⟨48, some .jr, [.value (.cond .nc), .value .e8], 2, [12, 8], .keep, .keep, .keep, .keep⟩
  | .ldSpN16 _ => ⟨49, some .ld, [.value (.pair .sp), .value .n16], 3, [12], .keep, .keep, .keep, .keep⟩
  | .ldIndHlDecA => ⟨50, some .ld, [.address (.pair .hl) .decrement, .value (.reg .a)], 1, [8], .keep, .keep, .keep, .keep⟩
  | .incSp => ⟨51, some .inc, [.value (.pair .sp)], 1, [8], .keep, .keep, .keep, .keep⟩
  | .incIndHl => ⟨52, some .inc, [.address (.pair .hl)], 1, [12], .computed, .clear, .computed, .keep⟩
  | .decIndHl => ⟨53, some .dec, [.address (.pair .hl)], 1, [12], .computed, .set, .computed, .keep⟩
  | .ldIndHlN8 _ => ⟨54, some .ld, [.address (.pair .hl), .value .n8], 2, [12], .keep, .keep, .keep, .keep⟩
  | .scf => ⟨55, some .scf, [], 1, [4], .keep, .clear, .clear, .set⟩
  | .jrCE8 _ => ⟨56, some .jr, [.value (.cond .c), .value .e8], 2, [12, 8], .keep, .keep, .keep, .keep⟩
  | .addHlSp => ⟨57, some .add, [.value (.pair .hl), .value (.pair .sp)], 1, [8], .keep, .clear, .computed, .computed⟩
  | .ldAIndHlDec => ⟨58, some .ld, [.value (.reg .a), .address (.pair .hl) .decrement], 1, [8], .keep, .keep, .keep, .keep⟩
  | .decSp => ⟨59, some .dec, [.value (.pair .sp)], 1, [8], .keep, .keep, .keep, .keep⟩
  | .incA => ⟨60, some .inc, [.value (.reg .a)], 1, [4], .computed, .clear, .computed, .keep⟩
  | .decA => ⟨61, some .dec, [.value (.reg .a)], 1, [4], .computed, .set, .computed, .keep⟩
  | .ldAN8 _ => ⟨62, some .ld, [.value (.reg .a), .value .n8], 2, [8], .keep, .keep, .keep, .keep⟩
  | .ccf => ⟨63, some .ccf, [], 1, [4], .keep, .clear, .clear, .computed⟩
  | .ldBB => ⟨64, some .ld, [.value (.reg .b), .value (.reg .b)], 1, [4], .keep, .keep, .keep, .keep⟩
  | .ldBC => ⟨65, some .ld, [.value (.reg .b), .value (.reg .c)], 1, [4], .keep, .keep, .keep, .keep⟩
  | .ldBD => ⟨66, some .ld, [.value (.reg .b), .value (.reg .d)], 1, [4], .keep, .keep, .keep, .keep⟩
  | .ldBE => ⟨67, some .ld, [.value (.reg .b), .value (.reg .e)], 1, [4], .keep, .keep, .keep, .keep⟩
  | .ldBH => ⟨68, some .ld, [.value (.reg .b), .value (.reg .h)], 1, [4], .keep, .keep, .keep, .keep⟩
  | .ldBL => ⟨69, some .ld, [.value (.reg .b), .value (.reg .l)], 1, [4], .keep, .keep, .keep, .keep⟩
  | .ldBIndHl => ⟨70, some .ld, [.value (.reg .b), .address (.pair .hl)], 1, [8], .keep, .keep, .keep, .keep⟩
  | .ldBA => ⟨71, some .ld, [.value (.reg .b), .value (.reg .a)], 1, [4], .keep, .keep, .keep, .keep⟩
  | .ldCB => ⟨72, some .ld, [.value (.reg .c), .value (.reg .b)], 1, [4], .keep, .keep, .keep, .keep⟩
  | .ldCC => ⟨73, some .ld, [.value (.reg .c), .value (.reg .c)], 1, [4], .keep, .keep, .keep, .keep⟩
  | .ldCD => ⟨74, some .ld, [.value (.reg .c), .value (.reg .d)], 1, [4], .keep, .keep, .keep, .keep⟩
  | .ldCE => ⟨75, some .ld, [.value (.reg .c), .value (.reg .e)], 1, [4], .keep, .keep, .keep, .keep⟩
  | .ldCH => ⟨76, some .ld, [.value (.reg .c), .value (.reg .h)], 1, [4], .keep, .keep, .keep, .keep⟩
  | .ldCL => ⟨77, some .ld, [.value (.reg .c), .value (.reg .l)], 1, [4], .keep, .keep, .keep, .keep⟩
  | .ldCIndHl => ⟨78, some .ld, [.value (.reg .c), .address (.pair .hl)], 1, [8], .keep, .keep, .keep, .keep⟩
  | .ldCA => ⟨79, some .ld, [.value (.reg .c), .value (.reg .a)], 1, [4], .keep, .keep, .keep, .keep⟩
  | .ldDB => ⟨80, some .ld, [.value (.reg .d), .value (.reg .b)], 1, [4], .keep, .keep, .keep, .keep⟩
  | .ldDC => ⟨81, some .ld, [.value (.reg .d), .value (.reg .c)], 1, [4], .keep, .keep, .keep, .keep⟩
  | .ldDD => ⟨82, some .ld, [.value (.reg .d), .value (.reg .d)], 1, [4], .keep, .keep, .keep, .keep⟩
  | .ldDE => ⟨83, some .ld, [.value (.reg .d), .value (.reg .e)], 1, [4], .keep, .keep, .keep, .keep⟩
  | .ldDH => ⟨84, some .ld, [.value (.reg .d), .value (.reg .h)], 1, [4], .keep, .keep, .keep, .keep⟩
  | .ldDL => ⟨85, some .ld, [.value (.reg .d), .value (.reg .l)], 1, [4], .keep, .keep, .keep, .keep⟩
  | .ldDIndHl => ⟨86, some .ld, [.value (.reg .d), .address (.pair .hl)], 1, [8], .keep, .keep, .keep, .keep⟩
  | .ldDA => ⟨87, some .ld, [.value (.reg .d), .value (.reg .a)], 1, [4], .keep, .keep, .keep, .keep⟩
  | .ldEB => ⟨88, some .ld, [.value (.reg .e), .value (.reg .b)], 1, [4], .keep, .keep, .keep, .keep⟩
  | .ldEC => ⟨89, some .ld, [.value (.reg .e), .value (.reg .c)], 1, [4], .keep, .keep, .keep, .keep⟩
  | .ldED => ⟨90, some .ld, [.value (.reg .e), .value (.reg .d)], 1, [4], .keep, .keep, .keep, .keep⟩
  | .ldEE => ⟨91, some .ld, [.value (.reg .e), .value (.reg .e)], 1, [4], .keep, .keep, .keep, .keep⟩
  | .ldEH => ⟨92, some .ld, [.value (.reg .e), .value (.reg .h)], 1, [4], .keep, .keep, .keep, .keep⟩
  | .ldEL => ⟨93, some .ld, [.value (.reg .e), .value (.reg .l)], 1, [4], .keep, .keep, .keep, .keep⟩
  | .ldEIndHl => ⟨94, some .ld, [.value (.reg .e), .address (.pair .hl)], 1, [8], .keep, .keep, .keep, .keep⟩
  | .ldEA => ⟨95, some .ld, [.value (.reg .e), .value (.reg .a)], 1, [4], .keep, .keep, .keep, .keep⟩
  | .ldHB => ⟨96, some .ld, [.value (.reg .h), .value (.reg .b)], 1, [4], .keep, .keep, .keep, .keep⟩
  | .ldHC => ⟨97, some .ld, [.value (.reg .h), .value (.reg .c)], 1, [4], .keep, .keep, .keep, .keep⟩
  | .ldHD => ⟨98, some .ld, [.value (.reg .h), .value (.reg .d)], 1, [4], .keep, .keep, .keep, .keep⟩
  | .ldHE => ⟨99, some .ld, [.value (.reg .h), .value (.reg .e)], 1, [4], .keep, .keep, .keep, .keep⟩
  | .ldHH => ⟨100, some .ld, [.value (.reg .h), .value (.reg .h)], 1, [4], .keep, .keep, .keep, .keep⟩
  | .ldHL => ⟨101, some .ld, [.value (.reg .h), .value (.reg .l)], 1, [4], .keep, .keep, .keep, .keep⟩
  | .ldHIndHl => ⟨102, some .ld, [.value (.reg .h), .address (.pair .hl)], 1, [8], .keep, .keep, .keep, .keep⟩
  | .ldHA => ⟨103, some .ld, [.value (.reg .h), .value (.reg .a)], 1, [4], .keep, .keep, .keep, .keep⟩
  | .ldLB => ⟨104, some .ld, [.value (.reg .l), .value (.reg .b)], 1, [4], .keep, .keep, .keep, .keep⟩
  | .ldLC => ⟨105, some .ld, [.value (.reg .l), .value (.reg .c)], 1, [4], .keep, .keep, .keep, .keep⟩
  | .ldLD => ⟨106, some .ld, [.value (.reg .l), .value (.reg .d)], 1, [4], .keep, .keep, .keep, .keep⟩
  | .ldLE => ⟨107, some .ld, [.value (.reg .l), .value (.reg .e)], 1, [4], .keep, .keep, .keep, .keep⟩
  | .ldLH => ⟨108, some .ld, [.value (.reg .l), .value (.reg .h)], 1, [4], .keep, .keep, .keep, .keep⟩
  | .ldLL => ⟨109, some .ld, [.value (.reg .l), .value (.reg .l)], 1, [4], .keep, .keep, .keep, .keep⟩
  | .ldLIndHl => ⟨110, some .ld, [.value (.reg .l), .address (.pair .hl)], 1, [8], .keep, .keep, .keep, .keep⟩
  | .ldLA => ⟨111, some .ld, [.value (.reg .l), .value (.reg .a)], 1, [4], .keep, .keep, .keep, .keep⟩
  | .ldIndHlB => ⟨112, some .ld, [.address (.pair .hl), .value (.reg .b)], 1, [8], .keep, .keep, .keep, .keep⟩
  | .ldIndHlC => ⟨113, some .ld, [.address (.pair .hl), .value (.reg .c)], 1, [8], .keep, .keep, .keep, .keep⟩
  | .ldIndHlD => ⟨114, some .ld, [.address (.pair .hl), .value (.reg .d)], 1, [8], .keep, .keep, .keep, .keep⟩
  | .ldIndHlE => ⟨115, some .ld, [.address (.pair .hl), .value (.reg .e)], 1, [8], .keep, .keep, .keep, .keep⟩
  | .ldIndHlH => ⟨116, some .ld, [.address (.pair .hl), .value (.reg .h)], 1, [8], .keep, .keep, .keep, .keep⟩
  | .ldIndHlL => ⟨117, some .ld, [.address (.pair .hl), .value (.reg .l)], 1, [8], .keep, .keep, .keep, .keep⟩
  | .halt => ⟨118, some .halt, [], 1, [4], .keep, .keep, .keep, .keep⟩
  | .ldIndHlA => ⟨119, some .ld, [.address (.pair .hl), .value (.reg .a)], 1, [8], .keep, .keep, .keep, .keep⟩
  | .ldAB => ⟨120, some .ld, [.value (.reg .a), .value (.reg .b)], 1, [4], .keep, .keep, .keep, .keep⟩
  | .ldAC => ⟨121, some .ld, [.value (.reg .a), .value (.reg .c)], 1, [4], .keep, .keep, .keep, .keep⟩
  | .ldAD => ⟨122, some .ld, [.value (.reg .a), .value (.reg .d)], 1, [4], .keep, .keep, .keep, .keep⟩
  | .ldAE => ⟨123, some .ld, [.value (.reg .a), .value (.reg .e)], 1, [4], .keep, .keep, .keep, .keep⟩
  | .ldAH => ⟨124, some .ld, [.value (.reg .a), .value (.reg .h)], 1, [4], .keep, .keep, .keep, .keep⟩
  | .ldAL => ⟨125, some .ld, [.value (.reg .a), .value (.reg .l)], 1, [4], .keep, .keep, .keep, .keep⟩
  | .ldAIndHl => ⟨126, some .ld, [.value (.reg .a), .address (.pair .hl)], 1, [8], .keep, .keep, .keep, .keep⟩
  | .ldAA => ⟨127, some .ld, [.value (.reg .a), .value (.reg .a)], 1, [4], .keep, .keep, .keep, .keep⟩
  | .addAB => ⟨128, some .add, [.value (.reg .a), .value (.reg .b)], 1, [4], .computed, .clear, .computed, .computed⟩
  | .addAC => ⟨129, some .add, [.value (.reg .a), .value (.reg .c)], 1, [4], .computed, .clear, .computed, .computed⟩
  | .addAD => ⟨130, some .add, [.value (.reg .a), .value (.reg .d)], 1, [4], .computed, .clear, .computed, .computed⟩
  | .addAE => ⟨131, some .add, [.value (.reg .a), .value (.reg .e)], 1, [4], .computed, .clear, .computed, .computed⟩
  | .addAH => ⟨132, some .add, [.value (.reg .a), .value (.reg .h)], 1, [4], .computed, .clear, .computed, .computed⟩
  | .addAL => ⟨133, some .add, [.value (.reg .a), .value (.reg .l)], 1, [4], .computed, .clear, .computed, .computed⟩
  | .addAIndHl => ⟨134, some .add, [.value (.reg .a), .address (.pair .hl)], 1, [8], .computed, .clear, .computed, .computed⟩
  | .addAA => ⟨135, some .add, [.value (.reg .a), .value (.reg .a)], 1, [4], .computed, .clear, .computed, .computed⟩
  | .adcAB => ⟨136, some .adc, [.value (.reg .a), .value (.reg .b)], 1, [4], .computed, .clear, .computed, .computed⟩
  | .adcAC => ⟨137, some .adc, [.value (.reg .a), .value (.reg .c)], 1, [4], .computed, .clear, .computed, .computed⟩
  | .adcAD => ⟨138, some .adc, [.value (.reg .a), .value (.reg .d)], 1, [4], .computed, .clear, .computed, .computed⟩
  | .adcAE => ⟨139, some .adc, [.value (.reg .a), .value (.reg .e)], 1, [4], .computed, .clear, .computed, .computed⟩
  | .adcAH => ⟨140, some .adc, [.value (.reg .a), .value (.reg .h)], 1, [4], .computed, .clear, .computed, .computed⟩
  | .adcAL => ⟨141, some .adc, [.value (.reg .a), .value (.reg .l)], 1, [4], .computed, .clear, .computed, .computed⟩
  | .adcAIndHl => ⟨142, some .adc, [.value (.reg .a), .address (.pair .hl)], 1, [8], .computed, .clear, .computed, .computed⟩
  | .adcAA => ⟨143, some .adc, [.value (.reg .a), .value (.reg .a)], 1, [4], .computed, .clear, .computed, .computed⟩
  | .subAB => ⟨144, some .sub, [.value (.reg .a), .value (.reg .b)], 1, [4], .computed, .set, .computed, .computed⟩
  | .subAC => ⟨145, some .sub, [.value (.reg .a), .value (.reg .c)], 1, [4], .computed, .set, .computed, .computed⟩
  | .subAD => ⟨146, some .sub, [.value (.reg .a), .value (.reg .d)], 1, [4], .computed, .set, .computed, .computed⟩
  | .subAE => ⟨147, some .sub, [.value (.reg .a), .value (.reg .e)], 1, [4], .computed, .set, .computed, .computed⟩
  | .subAH => ⟨148, some .sub, [.value (.reg .a), .value (.reg .h)], 1, [4], .computed, .set, .computed, .computed⟩
  | .subAL => ⟨149, some .sub, [.value (.reg .a), .value (.reg .l)], 1, [4], .computed, .set, .computed, .computed⟩
  | .subAIndHl => ⟨150, some .sub, [.value (.reg .a), .address (.pair .hl)], 1, [8], .computed, .set, .computed, .computed⟩
  | .subAA => ⟨151, some .sub, [.value (.reg .a), .value (.reg .a)], 1, [4], .computed, .set, .computed, .computed⟩
  | .sbcAB => ⟨152, some .sbc, [.value (.reg .a), .value (.reg .b)], 1, [4], .computed, .set, .computed, .computed⟩
  | .sbcAC => ⟨153, some .sbc, [.value (.reg .a), .value (.reg .c)], 1, [4], .computed, .set, .computed, .computed⟩
  | .sbcAD => ⟨154, some .sbc, [.value (.reg .a), .value (.reg .d)], 1, [4], .computed, .set, .computed, .computed⟩
  | .sbcAE => ⟨155, some .sbc, [.value (.reg .a), .value (.reg .e)], 1, [4], .computed, .set, .computed, .computed⟩
  | .sbcAH => ⟨156, some .sbc, [.value (.reg .a), .value (.reg .h)], 1, [4], .computed, .set, .computed, .computed⟩
  | .sbcAL => ⟨157, some .sbc, [.value (.reg .a), .value (.reg .l)], 1, [4], .computed, .set, .computed, .computed⟩
  | .sbcAIndHl => ⟨158, some .sbc, [.value (.reg .a), .address (.pair .hl)], 1, [8], .computed, .set, .computed, .computed⟩
  | .sbcAA => ⟨159, some .sbc, [.value (.reg .a), .value (.reg .a)], 1, [4], .computed, .set, .computed, .computed⟩
  | .andAB => ⟨160, some .and, [.value (.reg .a), .value (.reg .b)], 1, [4], .computed, .clear, .set, .clear⟩
  | .andAC => ⟨161, some .and, [.value (.reg .a), .value (.reg .c)], 1, [4], .computed, .clear, .set, .clear⟩
  | .andAD => ⟨162, some .and, [.value (.reg .a), .value (.reg .d)], 1, [4], .computed, .clear, .set, .clear⟩
  | .andAE => ⟨163, some .and, [.value (.reg .a), .value (.reg .e)], 1, [4], .computed, .clear, .set, .clear⟩
  | .andAH => ⟨164, some .and, [.value (.reg .a), .value (.reg .h)], 1, [4], .computed, .clear, .set, .clear⟩
  | .andAL => ⟨165, some .and, [.value (.reg .a), .value (.reg .l)], 1, [4], .computed, .clear, .set, .clear⟩
  | .andAIndHl => ⟨166, some .and, [.value (.reg .a), .address (.pair .hl)], 1, [8], .computed, .clear, .set, .clear⟩
  | .andAA => ⟨167, some .and, [.value (.reg .a), .value (.reg .a)], 1, [4], .computed, .clear, .set, .clear⟩
  | .xorAB => ⟨168, some .xor, [.value (.reg .a), .value (.reg .b)], 1, [4], .computed, .clear, .clear, .clear⟩
  | .xorAC => ⟨169, some .xor, [.value (.reg .a), .value (.reg .c)], 1, [4], .computed, .clear, .clear, .clear⟩
  | .xorAD => ⟨170, some .xor, [.value (.reg .a), .value (.reg .d)], 1, [4], .computed, .clear, .clear, .clear⟩
  | .xorAE => ⟨171, some .xor, [.value (.reg .a), .value (.reg .e)], 1, [4], .computed, .clear, .clear, .clear⟩
  | .xorAH => ⟨172, some .xor, [.value (.reg .a), .value (.reg .h)], 1, [4], .computed, .clear, .clear, .clear⟩
  | .xorAL => ⟨173, some .xor, [.value (.reg .a), .value (.reg .l)], 1, [4], .computed, .clear, .clear, .clear⟩
  | .xorAIndHl => ⟨174, some .xor, [.value (.reg .a), .address (.pair .hl)], 1, [8], .computed, .clear, .clear, .clear⟩
  | .xorAA => ⟨175, some .xor, [.value (.reg .a), .value (.reg .a)], 1, [4], .computed, .clear, .clear, .clear⟩
  | .orAB => ⟨176, some .or, [.value (.reg .a), .value (.reg .b)], 1, [4], .computed, .clear, .clear, .clear⟩
  | .orAC => ⟨177, some .or, [.value (.reg .a), .value (.reg .c)], 1, [4], .computed, .clear, .clear, .clear⟩
  | .orAD => ⟨178, some .or, [.value (.reg .a), .value (.reg .d)], 1, [4], .computed, .clear, .clear, .clear⟩
  | .orAE => ⟨179, some .or, [.value (.reg .a), .value (.reg .e)], 1, [4], .computed, .clear, .clear, .clear⟩
  | .orAH => ⟨180, some .or, [.value (.reg .a), .value (.reg .h)], 1, [4], .computed, .clear, .clear, .clear⟩
  | .orAL => ⟨181, some .or, [.value (.reg .a), .value (.reg .l)], 1, [4], .computed, .clear, .clear, .clear⟩
  | .orAIndHl => ⟨182, some .or, [.value (.reg .a), .address (.pair .hl)], 1, [8], .computed, .clear, .clear, .clear⟩
  | .orAA => ⟨183, some .or, [.value (.reg .a), .value (.reg .a)], 1, [4], .computed, .clear, .clear, .clear⟩
  | .cpAB => ⟨184, some .cp, [.value (.reg .a), .value (.reg .b)], 1, [4], .computed, .set, .computed, .computed⟩
  | .cpAC => ⟨185, some .cp, [.value (.reg .a), .value (.reg .c)], 1, [4], .computed, .set, .computed, .computed⟩
  | .cpAD => ⟨186, some .cp, [.value (.reg .a), .value (.reg .d)], 1, [4], .computed, .set, .computed, .computed⟩
  | .cpAE => ⟨187, some .cp, [.value (.reg .a), .value (.reg .e)], 1, [4], .computed, .set, .computed, .computed⟩
  | .cpAH => ⟨188, some .cp, [.value (.reg .a), .value (.reg .h)], 1, [4], .computed, .set, .computed, .computed⟩
  | .cpAL => ⟨189, some .cp, [.value (.reg .a), .value (.reg .l)], 1, [4], .computed, .set, .computed, .computed⟩
  | .cpAIndHl => ⟨190, some .cp, [.value (.reg .a), .address (.pair .hl)], 1, [8], .computed, .set, .computed, .computed⟩
  | .cpAA => ⟨191, some .cp, [.value (.reg .a), .value (.reg .a)], 1, [4], .computed, .set, .computed, .computed⟩
  | .retNz => ⟨192, some .ret, [.value (.cond .nz)], 1, [20, 8], .keep, .keep, .keep, .keep⟩
  | .popBc => ⟨193, some .pop, [.value (.pair .bc)], 1, [12], .keep, .keep, .keep, .keep⟩
  | .jpNzA16 _ => ⟨194, some .jp, [.value (.cond .nz), .value .a16], 3, [16, 12], .keep, .keep, .keep, .keep⟩
  | .jpA16 _ => ⟨195, some .jp, [.value .a16], 3, [16], .keep, .keep, .keep, .keep⟩
  | .callNzA16 _ => ⟨196, some .call, [.value (.cond .nz), .value .a16], 3, [24, 12], .keep, .keep, .keep, .keep⟩
  | .pushBc => ⟨197, some .push, [.value (.pair .bc)], 1, [16], .keep, .keep, .keep, .keep⟩
  | .addAN8 _ => ⟨198, some .add, [.value (.reg .a), .value .n8], 2, [8], .computed, .clear, .computed, .computed⟩
  | .rst00 => ⟨199, some .rst, [.value (.vector 0)], 1, [16], .keep, .keep, .keep, .keep⟩
  | .retZ => ⟨200, some .ret, [.value (.cond .z)], 1, [20, 8], .keep, .keep, .keep, .keep⟩
  | .ret => ⟨201, some .ret, [], 1, [16], .keep, .keep, .keep, .keep⟩
  | .jpZA16 _ => ⟨202, some .jp, [.value (.cond .z), .value .a16], 3, [16, 12], .keep, .keep, .keep, .keep⟩
  | .prefixCb => ⟨203, some .prefixMarker, [], 1, [4], .keep, .keep, .keep, .keep⟩
  | .callZA16 _ => ⟨204, some .call, [.value (.cond .z), .value .a16], 3, [24, 12], .keep, .keep, .keep, .keep⟩
  | .callA16 _ => ⟨205, some .call, [.value .a16], 3, [24], .keep, .keep, .keep, .keep⟩
  | .adcAN8 _ => ⟨206, some .adc, [.value (.reg .a), .value .n8], 2, [8], .computed, .clear, .computed, .computed⟩
  | .rst08 => ⟨207, some .rst, [.value (.vector 1)], 1, [16], .keep, .keep, .keep, .keep⟩
  | .retNc => ⟨208, some .ret, [.value (.cond .nc)], 1, [20, 8], .keep, .keep, .keep, .keep⟩
  | .popDe => ⟨209, some .pop, [.value (.pair .de)], 1, [12], .keep, .keep, .keep, .keep⟩
  | .jpNcA16 _ => ⟨210, some .jp, [.value (.cond .nc), .value .a16], 3, [16, 12], .keep, .keep, .keep, .keep⟩
  | .unimplementedD3 => ⟨211, .none, [], 1, [], .keep, .keep, .keep, .keep⟩
  | .callNcA16 _ => ⟨212, some .call, [.value (.cond .nc), .value .a16], 3, [24, 12], .keep, .keep, .keep, .keep⟩
  | .pushDe => ⟨213, some .push, [.value (.pair .de)], 1, [16], .keep, .keep, .keep, .keep⟩
  | .subAN8 _ => ⟨214, some .sub, [.value (.reg .a), .value .n8], 2, [8], .computed, .set, .computed, .computed⟩
  | .rst10 => ⟨215, some .rst, [.value (.vector 2)], 1, [16], .keep, .keep, .keep, .keep⟩
  | .retC => ⟨216, some .ret, [.value (.cond .c)], 1, [20, 8], .keep, .keep, .keep, .keep⟩
  | .reti => ⟨217, some .reti, [], 1, [16], .keep, .keep, .keep, .keep⟩
  | .jpCA16 _ => ⟨218, some .jp, [.value (.cond .c), .value .a16], 3, [16, 12], .keep, .keep, .keep, .keep⟩
  | .unimplementedDB => ⟨219, .none, [], 1, [], .keep, .keep, .keep, .keep⟩
  | .callCA16 _ => ⟨220, some .call, [.value (.cond .c), .value .a16], 3, [24, 12], .keep, .keep, .keep, .keep⟩
  | .unimplementedDD => ⟨221, .none, [], 1, [], .keep, .keep, .keep, .keep⟩
  | .sbcAN8 _ => ⟨222, some .sbc, [.value (.reg .a), .value .n8], 2, [8], .computed, .set, .computed, .computed⟩
  | .rst18 => ⟨223, some .rst, [.value (.vector 3)], 1, [16], .keep, .keep, .keep, .keep⟩
  | .ldhIndA8A _ => ⟨224, some .ldh, [.address .a8, .value (.reg .a)], 2, [12], .keep, .keep, .keep, .keep⟩
  | .popHl => ⟨225, some .pop, [.value (.pair .hl)], 1, [12], .keep, .keep, .keep, .keep⟩
  | .ldIndCA => ⟨226, some .ld, [.address (.reg .c), .value (.reg .a)], 1, [8], .keep, .keep, .keep, .keep⟩
  | .unimplementedE3 => ⟨227, .none, [], 1, [], .keep, .keep, .keep, .keep⟩
  | .unimplementedE4 => ⟨228, .none, [], 1, [], .keep, .keep, .keep, .keep⟩
  | .pushHl => ⟨229, some .push, [.value (.pair .hl)], 1, [16], .keep, .keep, .keep, .keep⟩
  | .andAN8 _ => ⟨230, some .and, [.value (.reg .a), .value .n8], 2, [8], .computed, .clear, .set, .clear⟩
  | .rst20 => ⟨231, some .rst, [.value (.vector 4)], 1, [16], .keep, .keep, .keep, .keep⟩
  | .addSpE8 _ => ⟨232, some .add, [.value (.pair .sp), .value .e8], 2, [16], .clear, .clear, .computed, .computed⟩
  | .jpHl => ⟨233, some .jp, [.value (.pair .hl)], 1, [4], .keep, .keep, .keep, .keep⟩
  | .ldIndA16A _ => ⟨234, some .ld, [.address .a16, .value (.reg .a)], 3, [16], .keep, .keep, .keep, .keep⟩
  | .unimplementedEB => ⟨235, .none, [], 1, [], .keep, .keep, .keep, .keep⟩
  | .unimplementedEC => ⟨236, .none, [], 1, [], .keep, .keep, .keep, .keep⟩
  | .unimplementedED => ⟨237, .none, [], 1, [], .keep, .keep, .keep, .keep⟩
  | .xorAN8 _ => ⟨238, some .xor, [.value (.reg .a), .value .n8], 2, [8], .computed, .clear, .clear, .clear⟩
  | .rst28 => ⟨239, some .rst, [.value (.vector 5)], 1, [16], .keep, .keep, .keep, .keep⟩
  | .ldhAIndA8 _ => ⟨240, some .ldh, [.value (.reg .a), .address .a8], 2, [12], .keep, .keep, .keep, .keep⟩
  | .popAf => ⟨241, some .pop, [.value .af], 1, [12], .computed, .computed, .computed, .computed⟩
  | .ldAIndC => ⟨242, some .ld, [.value (.reg .a), .address (.reg .c)], 1, [8], .keep, .keep, .keep, .keep⟩
  | .di => ⟨243, some .di, [], 1, [4], .keep, .keep, .keep, .keep⟩
  | .unimplementedF4 => ⟨244, .none, [], 1, [], .keep, .keep, .keep, .keep⟩
  | .pushAf => ⟨245, some .push, [.value .af], 1, [16], .keep, .keep, .keep, .keep⟩
  | .orAN8 _ => ⟨246, some .or, [.value (.reg .a), .value .n8], 2, [8], .computed, .clear, .clear, .clear⟩
  | .rst30 => ⟨247, some .rst, [.value (.vector 6)], 1, [16], .keep, .keep, .keep, .keep⟩
  | .ldHlSpE8 _ => ⟨248, some .ld, [.value (.pair .hl), .value .spE8], 2, [12], .clear, .clear, .computed, .computed⟩
  | .ldSpHl => ⟨249, some .ld, [.value (.pair .sp), .value (.pair .hl)], 1, [8], .keep, .keep, .keep, .keep⟩
  | .ldAIndA16 _ => ⟨250, some .ld, [.value (.reg .a), .address .a16], 3, [16], .keep, .keep, .keep, .keep⟩
  | .ei => ⟨251, some .ei, [], 1, [4], .keep, .keep, .keep, .keep⟩
  | .unimplementedFC => ⟨252, .none, [], 1, [], .keep, .keep, .keep, .keep⟩
  | .unimplementedFD => ⟨253, .none, [], 1, [], .keep, .keep, .keep, .keep⟩
  | .cpAN8 _ => ⟨254, some .cp, [.value (.reg .a), .value .n8], 2, [8], .computed, .set, .computed, .computed⟩
  | .rst38 => ⟨255, some .rst, [.value (.vector 7)], 1, [16], .keep, .keep, .keep, .keep⟩
  | .cbRlcB => ⟨256, some .rlc, [.value (.reg .b)], 2, [8], .computed, .clear, .clear, .computed⟩
  | .cbRlcC => ⟨257, some .rlc, [.value (.reg .c)], 2, [8], .computed, .clear, .clear, .computed⟩
  | .cbRlcD => ⟨258, some .rlc, [.value (.reg .d)], 2, [8], .computed, .clear, .clear, .computed⟩
  | .cbRlcE => ⟨259, some .rlc, [.value (.reg .e)], 2, [8], .computed, .clear, .clear, .computed⟩
  | .cbRlcH => ⟨260, some .rlc, [.value (.reg .h)], 2, [8], .computed, .clear, .clear, .computed⟩
  | .cbRlcL => ⟨261, some .rlc, [.value (.reg .l)], 2, [8], .computed, .clear, .clear, .computed⟩
  | .cbRlcIndHl => ⟨262, some .rlc, [.address (.pair .hl)], 2, [16], .computed, .clear, .clear, .computed⟩
  | .cbRlcA => ⟨263, some .rlc, [.value (.reg .a)], 2, [8], .computed, .clear, .clear, .computed⟩
  | .cbRrcB => ⟨264, some .rrc, [.value (.reg .b)], 2, [8], .computed, .clear, .clear, .computed⟩
  | .cbRrcC => ⟨265, some .rrc, [.value (.reg .c)], 2, [8], .computed, .clear, .clear, .computed⟩
  | .cbRrcD => ⟨266, some .rrc, [.value (.reg .d)], 2, [8], .computed, .clear, .clear, .computed⟩
  | .cbRrcE => ⟨267, some .rrc, [.value (.reg .e)], 2, [8], .computed, .clear, .clear, .computed⟩
  | .cbRrcH => ⟨268, some .rrc, [.value (.reg .h)], 2, [8], .computed, .clear, .clear, .computed⟩
  | .cbRrcL => ⟨269, some .rrc, [.value (.reg .l)], 2, [8], .computed, .clear, .clear, .computed⟩
  | .cbRrcIndHl => ⟨270, some .rrc, [.address (.pair .hl)], 2, [16], .computed, .clear, .clear, .computed⟩
  | .cbRrcA => ⟨271, some .rrc, [.value (.reg .a)], 2, [8], .computed, .clear, .clear, .computed⟩
  | .cbRlB => ⟨272, some .rl, [.value (.reg .b)], 2, [8], .computed, .clear, .clear, .computed⟩
  | .cbRlC => ⟨273, some .rl, [.value (.reg .c)], 2, [8], .computed, .clear, .clear, .computed⟩
  | .cbRlD => ⟨274, some .rl, [.value (.reg .d)], 2, [8], .computed, .clear, .clear, .computed⟩
  | .cbRlE => ⟨275, some .rl, [.value (.reg .e)], 2, [8], .computed, .clear, .clear, .computed⟩
  | .cbRlH => ⟨276, some .rl, [.value (.reg .h)], 2, [8], .computed, .clear, .clear, .computed⟩
  | .cbRlL => ⟨277, some .rl, [.value (.reg .l)], 2, [8], .computed, .clear, .clear, .computed⟩
  | .cbRlIndHl => ⟨278, some .rl, [.address (.pair .hl)], 2, [16], .computed, .clear, .clear, .computed⟩
  | .cbRlA => ⟨279, some .rl, [.value (.reg .a)], 2, [8], .computed, .clear, .clear, .computed⟩
  | .cbRrB => ⟨280, some .rr, [.value (.reg .b)], 2, [8], .computed, .clear, .clear, .computed⟩
  | .cbRrC => ⟨281, some .rr, [.value (.reg .c)], 2, [8], .computed, .clear, .clear, .computed⟩
  | .cbRrD => ⟨282, some .rr, [.value (.reg .d)], 2, [8], .computed, .clear, .clear, .computed⟩
  | .cbRrE => ⟨283, some .rr, [.value (.reg .e)], 2, [8], .computed, .clear, .clear, .computed⟩
  | .cbRrH => ⟨284, some .rr, [.value (.reg .h)], 2, [8], .computed, .clear, .clear, .computed⟩
  | .cbRrL => ⟨285, some .rr, [.value (.reg .l)], 2, [8], .computed, .clear, .clear, .computed⟩
  | .cbRrIndHl => ⟨286, some .rr, [.address (.pair .hl)], 2, [16], .computed, .clear, .clear, .computed⟩
  | .cbRrA => ⟨287, some .rr, [.value (.reg .a)], 2, [8], .computed, .clear, .clear, .computed⟩
  | .cbSlaB => ⟨288, some .sla, [.value (.reg .b)], 2, [8], .computed, .clear, .clear, .computed⟩
  | .cbSlaC => ⟨289, some .sla, [.value (.reg .c)], 2, [8], .computed, .clear, .clear, .computed⟩
  | .cbSlaD => ⟨290, some .sla, [.value (.reg .d)], 2, [8], .computed, .clear, .clear, .computed⟩
  | .cbSlaE => ⟨291, some .sla, [.value (.reg .e)], 2, [8], .computed, .clear, .clear, .computed⟩
  | .cbSlaH => ⟨292, some .sla, [.value (.reg .h)], 2, [8], .computed, .clear, .clear, .computed⟩
  | .cbSlaL => ⟨293, some .sla, [.value (.reg .l)], 2, [8], .computed, .clear, .clear, .computed⟩
  | .cbSlaIndHl => ⟨294, some .sla, [.address (.pair .hl)], 2, [16], .computed, .clear, .clear, .computed⟩
  | .cbSlaA => ⟨295, some .sla, [.value (.reg .a)], 2, [8], .computed, .clear, .clear, .computed⟩
  | .cbSraB => ⟨296, some .sra, [.value (.reg .b)], 2, [8], .computed, .clear, .clear, .computed⟩
  | .cbSraC => ⟨297, some .sra, [.value (.reg .c)], 2, [8], .computed, .clear, .clear, .computed⟩
  | .cbSraD => ⟨298, some .sra, [.value (.reg .d)], 2, [8], .computed, .clear, .clear, .computed⟩
  | .cbSraE => ⟨299, some .sra, [.value (.reg .e)], 2, [8], .computed, .clear, .clear, .computed⟩
  | .cbSraH => ⟨300, some .sra, [.value (.reg .h)], 2, [8], .computed, .clear, .clear, .computed⟩
  | .cbSraL => ⟨301, some .sra, [.value (.reg .l)], 2, [8], .computed, .clear, .clear, .computed⟩
  | .cbSraIndHl => ⟨302, some .sra, [.address (.pair .hl)], 2, [16], .computed, .clear, .clear, .computed⟩
  | .cbSraA => ⟨303, some .sra, [.value (.reg .a)], 2, [8], .computed, .clear, .clear, .computed⟩
  | .cbSwapB => ⟨304, some .swap, [.value (.reg .b)], 2, [8], .computed, .clear, .clear, .clear⟩
  | .cbSwapC => ⟨305, some .swap, [.value (.reg .c)], 2, [8], .computed, .clear, .clear, .clear⟩
  | .cbSwapD => ⟨306, some .swap, [.value (.reg .d)], 2, [8], .computed, .clear, .clear, .clear⟩
  | .cbSwapE => ⟨307, some .swap, [.value (.reg .e)], 2, [8], .computed, .clear, .clear, .clear⟩
  | .cbSwapH => ⟨308, some .swap, [.value (.reg .h)], 2, [8], .computed, .clear, .clear, .clear⟩
  | .cbSwapL => ⟨309, some .swap, [.value (.reg .l)], 2, [8], .computed, .clear, .clear, .clear⟩
  | .cbSwapIndHl => ⟨310, some .swap, [.address (.pair .hl)], 2, [16], .computed, .clear, .clear, .clear⟩
  | .cbSwapA => ⟨311, some .swap, [.value (.reg .a)], 2, [8], .computed, .clear, .clear, .clear⟩
  | .cbSrlB => ⟨312, some .srl, [.value (.reg .b)], 2, [8], .computed, .clear, .clear, .computed⟩
  | .cbSrlC => ⟨313, some .srl, [.value (.reg .c)], 2, [8], .computed, .clear, .clear, .computed⟩
  | .cbSrlD => ⟨314, some .srl, [.value (.reg .d)], 2, [8], .computed, .clear, .clear, .computed⟩
  | .cbSrlE => ⟨315, some .srl, [.value (.reg .e)], 2, [8], .computed, .clear, .clear, .computed⟩
  | .cbSrlH => ⟨316, some .srl, [.value (.reg .h)], 2, [8], .computed, .clear, .clear, .computed⟩
  | .cbSrlL => ⟨317, some .srl, [.value (.reg .l)], 2, [8], .computed, .clear, .clear, .computed⟩
  | .cbSrlIndHl => ⟨318, some .srl, [.address (.pair .hl)], 2, [16], .computed, .clear, .clear, .computed⟩
  | .cbSrlA => ⟨319, some .srl, [.value (.reg .a)], 2, [8], .computed, .clear, .clear, .computed⟩
  | .cbBit0B => ⟨320, some .bit, [.value (.bit 0), .value (.reg .b)], 2, [8], .computed, .clear, .set, .keep⟩
  | .cbBit0C => ⟨321, some .bit, [.value (.bit 0), .value (.reg .c)], 2, [8], .computed, .clear, .set, .keep⟩
  | .cbBit0D => ⟨322, some .bit, [.value (.bit 0), .value (.reg .d)], 2, [8], .computed, .clear, .set, .keep⟩
  | .cbBit0E => ⟨323, some .bit, [.value (.bit 0), .value (.reg .e)], 2, [8], .computed, .clear, .set, .keep⟩
  | .cbBit0H => ⟨324, some .bit, [.value (.bit 0), .value (.reg .h)], 2, [8], .computed, .clear, .set, .keep⟩
  | .cbBit0L => ⟨325, some .bit, [.value (.bit 0), .value (.reg .l)], 2, [8], .computed, .clear, .set, .keep⟩
  | .cbBit0IndHl => ⟨326, some .bit, [.value (.bit 0), .address (.pair .hl)], 2, [12], .computed, .clear, .set, .keep⟩
  | .cbBit0A => ⟨327, some .bit, [.value (.bit 0), .value (.reg .a)], 2, [8], .computed, .clear, .set, .keep⟩
  | .cbBit1B => ⟨328, some .bit, [.value (.bit 1), .value (.reg .b)], 2, [8], .computed, .clear, .set, .keep⟩
  | .cbBit1C => ⟨329, some .bit, [.value (.bit 1), .value (.reg .c)], 2, [8], .computed, .clear, .set, .keep⟩
  | .cbBit1D => ⟨330, some .bit, [.value (.bit 1), .value (.reg .d)], 2, [8], .computed, .clear, .set, .keep⟩
  | .cbBit1E => ⟨331, some .bit, [.value (.bit 1), .value (.reg .e)], 2, [8], .computed, .clear, .set, .keep⟩
  | .cbBit1H => ⟨332, some .bit, [.value (.bit 1), .value (.reg .h)], 2, [8], .computed, .clear, .set, .keep⟩
  | .cbBit1L => ⟨333, some .bit, [.value (.bit 1), .value (.reg .l)], 2, [8], .computed, .clear, .set, .keep⟩
  | .cbBit1IndHl => ⟨334, some .bit, [.value (.bit 1), .address (.pair .hl)], 2, [12], .computed, .clear, .set, .keep⟩
  | .cbBit1A => ⟨335, some .bit, [.value (.bit 1), .value (.reg .a)], 2, [8], .computed, .clear, .set, .keep⟩
  | .cbBit2B => ⟨336, some .bit, [.value (.bit 2), .value (.reg .b)], 2, [8], .computed, .clear, .set, .keep⟩
  | .cbBit2C => ⟨337, some .bit, [.value (.bit 2), .value (.reg .c)], 2, [8], .computed, .clear, .set, .keep⟩
  | .cbBit2D => ⟨338, some .bit, [.value (.bit 2), .value (.reg .d)], 2, [8], .computed, .clear, .set, .keep⟩
  | .cbBit2E => ⟨339, some .bit, [.value (.bit 2), .value (.reg .e)], 2, [8], .computed, .clear, .set, .keep⟩
  | .cbBit2H => ⟨340, some .bit, [.value (.bit 2), .value (.reg .h)], 2, [8], .computed, .clear, .set, .keep⟩
  | .cbBit2L => ⟨341, some .bit, [.value (.bit 2), .value (.reg .l)], 2, [8], .computed, .clear, .set, .keep⟩
  | .cbBit2IndHl => ⟨342, some .bit, [.value (.bit 2), .address (.pair .hl)], 2, [12], .computed, .clear, .set, .keep⟩
  | .cbBit2A => ⟨343, some .bit, [.value (.bit 2), .value (.reg .a)], 2, [8], .computed, .clear, .set, .keep⟩
  | .cbBit3B => ⟨344, some .bit, [.value (.bit 3), .value (.reg .b)], 2, [8], .computed, .clear, .set, .keep⟩
  | .cbBit3C => ⟨345, some .bit, [.value (.bit 3), .value (.reg .c)], 2, [8], .computed, .clear, .set, .keep⟩
  | .cbBit3D => ⟨346, some .bit, [.value (.bit 3), .value (.reg .d)], 2, [8], .computed, .clear, .set, .keep⟩
  | .cbBit3E => ⟨347, some .bit, [.value (.bit 3), .value (.reg .e)], 2, [8], .computed, .clear, .set, .keep⟩
  | .cbBit3H => ⟨348, some .bit, [.value (.bit 3), .value (.reg .h)], 2, [8], .computed, .clear, .set, .keep⟩
  | .cbBit3L => ⟨349, some .bit, [.value (.bit 3), .value (.reg .l)], 2, [8], .computed, .clear, .set, .keep⟩
  | .cbBit3IndHl => ⟨350, some .bit, [.value (.bit 3), .address (.pair .hl)], 2, [12], .computed, .clear, .set, .keep⟩
  | .cbBit3A => ⟨351, some .bit, [.value (.bit 3), .value (.reg .a)], 2, [8], .computed, .clear, .set, .keep⟩
  | .cbBit4B => ⟨352, some .bit, [.value (.bit 4), .value (.reg .b)], 2, [8], .computed, .clear, .set, .keep⟩
  | .cbBit4C => ⟨353, some .bit, [.value (.bit 4), .value (.reg .c)], 2, [8], .computed, .clear, .set, .keep⟩
  | .cbBit4D => ⟨354, some .bit, [.value (.bit 4), .value (.reg .d)], 2, [8], .computed, .clear, .set, .keep⟩
  | .cbBit4E => ⟨355, some .bit, [.value (.bit 4), .value (.reg .e)], 2, [8], .computed, .clear, .set, .keep⟩
  | .cbBit4H => ⟨356, some .bit, [.value (.bit 4), .value (.reg .h)], 2, [8], .computed, .clear, .set, .keep⟩
  | .cbBit4L => ⟨357, some .bit, [.value (.bit 4), .value (.reg .l)], 2, [8], .computed, .clear, .set, .keep⟩
  | .cbBit4IndHl => ⟨358, some .bit, [.value (.bit 4), .address (.pair .hl)], 2, [12], .computed, .clear, .set, .keep⟩
  | .cbBit4A => ⟨359, some .bit, [.value (.bit 4), .value (.reg .a)], 2, [8], .computed, .clear, .set, .keep⟩
  | .cbBit5B => ⟨360, some .bit, [.value (.bit 5), .value (.reg .b)], 2, [8], .computed, .clear, .set, .keep⟩
  | .cbBit5C => ⟨361, some .bit, [.value (.bit 5), .value (.reg .c)], 2, [8], .computed, .clear, .set, .keep⟩
  | .cbBit5D => ⟨362, some .bit, [.value (.bit 5), .value (.reg .d)], 2, [8], .computed, .clear, .set, .keep⟩
  | .cbBit5E => ⟨363, some .bit, [.value (.bit 5), .value (.reg .e)], 2, [8], .computed, .clear, .set, .keep⟩
  | .cbBit5H => ⟨364, some .bit, [.value (.bit 5), .value (.reg .h)], 2, [8], .computed, .clear, .set, .keep⟩
  | .cbBit5L => ⟨365, some .bit, [.value (.bit 5), .value (.reg .l)], 2, [8], .computed, .clear, .set, .keep⟩
  | .cbBit5IndHl => ⟨366, some .bit, [.value (.bit 5), .address (.pair .hl)], 2, [12], .computed, .clear, .set, .keep⟩
  | .cbBit5A => ⟨367, some .bit, [.value (.bit 5), .value (.reg .a)], 2, [8], .computed, .clear, .set, .keep⟩
  | .cbBit6B => ⟨368, some .bit, [.value (.bit 6), .value (.reg .b)], 2, [8], .computed, .clear, .set, .keep⟩
  | .cbBit6C => ⟨369, some .bit, [.value (.bit 6), .value (.reg .c)], 2, [8], .computed, .clear, .set, .keep⟩
  | .cbBit6D => ⟨370, some .bit, [.value (.bit 6), .value (.reg .d)], 2, [8], .computed, .clear, .set, .keep⟩
  | .cbBit6E => ⟨371, some .bit, [.value (.bit 6), .value (.reg .e)], 2, [8], .computed, .clear, .set, .keep⟩
  | .cbBit6H => ⟨372, some .bit, [.value (.bit 6), .value (.reg .h)], 2, [8], .computed, .clear, .set, .keep⟩
  | .cbBit6L => ⟨373, some .bit, [.value (.bit 6), .value (.reg .l)], 2, [8], .computed, .clear, .set, .keep⟩
  | .cbBit6IndHl => ⟨374, some .bit, [.value (.bit 6), .address (.pair .hl)], 2, [12], .computed, .clear, .set, .keep⟩
  | .cbBit6A => ⟨375, some .bit, [.value (.bit 6), .value (.reg .a)], 2, [8], .computed, .clear, .set, .keep⟩
  | .cbBit7B => ⟨376, some .bit, [.value (.bit 7), .value (.reg .b)], 2, [8], .computed, .clear, .set, .keep⟩
  | .cbBit7C => ⟨377, some .bit, [.value (.bit 7), .value (.reg .c)], 2, [8], .computed, .clear, .set, .keep⟩
  | .cbBit7D => ⟨378, some .bit, [.value (.bit 7), .value (.reg .d)], 2, [8], .computed, .clear, .set, .keep⟩
  | .cbBit7E => ⟨379, some .bit, [.value (.bit 7), .value (.reg .e)], 2, [8], .computed, .clear, .set, .keep⟩
  | .cbBit7H => ⟨380, some .bit, [.value (.bit 7), .value (.reg .h)], 2, [8], .computed, .clear, .set, .keep⟩
  | .cbBit7L => ⟨381, some .bit, [.value (.bit 7), .value (.reg .l)], 2, [8], .computed, .clear, .set, .keep⟩
  | .cbBit7IndHl => ⟨382, some .bit, [.value (.bit 7), .address (.pair .hl)], 2, [12], .computed, .clear, .set, .keep⟩
  | .cbBit7A => ⟨383, some .bit, [.value (.bit 7), .value (.reg .a)], 2, [8], .computed, .clear, .set, .keep⟩
  | .cbRes0B => ⟨384, some .res, [.value (.bit 0), .value (.reg .b)], 2, [8], .keep, .keep, .keep, .keep⟩
  | .cbRes0C => ⟨385, some .res, [.value (.bit 0), .value (.reg .c)], 2, [8], .keep, .keep, .keep, .keep⟩
  | .cbRes0D => ⟨386, some .res, [.value (.bit 0), .value (.reg .d)], 2, [8], .keep, .keep, .keep, .keep⟩
  | .cbRes0E => ⟨387, some .res, [.value (.bit 0), .value (.reg .e)], 2, [8], .keep, .keep, .keep, .keep⟩
  | .cbRes0H => ⟨388, some .res, [.value (.bit 0), .value (.reg .h)], 2, [8], .keep, .keep, .keep, .keep⟩
  | .cbRes0L => ⟨389, some .res, [.value (.bit 0), .value (.reg .l)], 2, [8], .keep, .keep, .keep, .keep⟩
  | .cbRes0IndHl => ⟨390, some .res, [.value (.bit 0), .address (.pair .hl)], 2, [16], .keep, .keep, .keep, .keep⟩
  | .cbRes0A => ⟨391, some .res, [.value (.bit 0), .value (.reg .a)], 2, [8], .keep, .keep, .keep, .keep⟩
  | .cbRes1B => ⟨392, some .res, [.value (.bit 1), .value (.reg .b)], 2, [8], .keep, .keep, .keep, .keep⟩
  | .cbRes1C => ⟨393, some .res, [.value (.bit 1), .value (.reg .c)], 2, [8], .keep, .keep, .keep, .keep⟩
  | .cbRes1D => ⟨394, some .res, [.value (.bit 1), .value (.reg .d)], 2, [8], .keep, .keep, .keep, .keep⟩
  | .cbRes1E => ⟨395, some .res, [.value (.bit 1), .value (.reg .e)], 2, [8], .keep, .keep, .keep, .keep⟩
  | .cbRes1H => ⟨396, some .res, [.value (.bit 1), .value (.reg .h)], 2, [8], .keep, .keep, .keep, .keep⟩
  | .cbRes1L => ⟨397, some .res, [.value (.bit 1), .value (.reg .l)], 2, [8], .keep, .keep, .keep, .keep⟩
  | .cbRes1IndHl => ⟨398, some .res, [.value (.bit 1), .address (.pair .hl)], 2, [16], .keep, .keep, .keep, .keep⟩
  | .cbRes1A => ⟨399, some .res, [.value (.bit 1), .value (.reg .a)], 2, [8], .keep, .keep, .keep, .keep⟩
  | .cbRes2B => ⟨400, some .res, [.value (.bit 2), .value (.reg .b)], 2, [8], .keep, .keep, .keep, .keep⟩
  | .cbRes2C => ⟨401, some .res, [.value (.bit 2), .value (.reg .c)], 2, [8], .keep, .keep, .keep, .keep⟩
  | .cbRes2D => ⟨402, some .res, [.value (.bit 2), .value (.reg .d)], 2, [8], .keep, .keep, .keep, .keep⟩
  | .cbRes2E => ⟨403, some .res, [.value (.bit 2), .value (.reg .e)], 2, [8], .keep, .keep, .keep, .keep⟩
  | .cbRes2H => ⟨404, some .res, [.value (.bit 2), .value (.reg .h)], 2, [8], .keep, .keep, .keep, .keep⟩
  | .cbRes2L => ⟨405, some .res, [.value (.bit 2), .value (.reg .l)], 2, [8], .keep, .keep, .keep, .keep⟩
  | .cbRes2IndHl => ⟨406, some .res, [.value (.bit 2), .address (.pair .hl)], 2, [16], .keep, .keep, .keep, .keep⟩
  | .cbRes2A => ⟨407, some .res, [.value (.bit 2), .value (.reg .a)], 2, [8], .keep, .keep, .keep, .keep⟩
  | .cbRes3B => ⟨408, some .res, [.value (.bit 3), .value (.reg .b)], 2, [8], .keep, .keep, .keep, .keep⟩
  | .cbRes3C => ⟨409, some .res, [.value (.bit 3), .value (.reg .c)], 2, [8], .keep, .keep, .keep, .keep⟩
  | .cbRes3D => ⟨410, some .res, [.value (.bit 3), .value (.reg .d)], 2, [8], .keep, .keep, .keep, .keep⟩
  | .cbRes3E => ⟨411, some .res, [.value (.bit 3), .value (.reg .e)], 2, [8], .keep, .keep, .keep, .keep⟩
  | .cbRes3H => ⟨412, some .res, [.value (.bit 3), .value (.reg .h)], 2, [8], .keep, .keep, .keep, .keep⟩
  | .cbRes3L => ⟨413, some .res, [.value (.bit 3), .value (.reg .l)], 2, [8], .keep, .keep, .keep, .keep⟩
  | .cbRes3IndHl => ⟨414, some .res, [.value (.bit 3), .address (.pair .hl)], 2, [16], .keep, .keep, .keep, .keep⟩
  | .cbRes3A => ⟨415, some .res, [.value (.bit 3), .value (.reg .a)], 2, [8], .keep, .keep, .keep, .keep⟩
  | .cbRes4B => ⟨416, some .res, [.value (.bit 4), .value (.reg .b)], 2, [8], .keep, .keep, .keep, .keep⟩
  | .cbRes4C => ⟨417, some .res, [.value (.bit 4), .value (.reg .c)], 2, [8], .keep, .keep, .keep, .keep⟩
  | .cbRes4D => ⟨418, some .res, [.value (.bit 4), .value (.reg .d)], 2, [8], .keep, .keep, .keep, .keep⟩
  | .cbRes4E => ⟨419, some .res, [.value (.bit 4), .value (.reg .e)], 2, [8], .keep, .keep, .keep, .keep⟩
  | .cbRes4H => ⟨420, some .res, [.value (.bit 4), .value (.reg .h)], 2, [8], .keep, .keep, .keep, .keep⟩
  | .cbRes4L => ⟨421, some .res, [.value (.bit 4), .value (.reg .l)], 2, [8], .keep, .keep, .keep, .keep⟩
  | .cbRes4IndHl => ⟨422, some .res, [.value (.bit 4), .address (.pair .hl)], 2, [16], .keep, .keep, .keep, .keep⟩
  | .cbRes4A => ⟨423, some .res, [.value (.bit 4), .value (.reg .a)], 2, [8], .keep, .keep, .keep, .keep⟩
  | .cbRes5B => ⟨424, some .res, [.value (.bit 5), .value (.reg .b)], 2, [8], .keep, .keep, .keep, .keep⟩
  | .cbRes5C => ⟨425, some .res, [.value (.bit 5), .value (.reg .c)], 2, [8], .keep, .keep, .keep, .keep⟩
  | .cbRes5D => ⟨426, some .res, [.value (.bit 5), .value (.reg .d)], 2, [8], .keep, .keep, .keep, .keep⟩
  | .cbRes5E => ⟨427, some .res, [.value (.bit 5), .value (.reg .e)], 2, [8], .keep, .keep, .keep, .keep⟩
  | .cbRes5H => ⟨428, some .res, [.value (.bit 5), .value (.reg .h)], 2, [8], .keep, .keep, .keep, .keep⟩
  | .cbRes5L => ⟨429, some .res, [.value (.bit 5), .value (.reg .l)], 2, [8], .keep, .keep, .keep, .keep⟩
  | .cbRes5IndHl => ⟨430, some .res, [.value (.bit 5), .address (.pair .hl)], 2, [16], .keep, .keep, .keep, .keep⟩
  | .cbRes5A => ⟨431, some .res, [.value (.bit 5), .value (.reg .a)], 2, [8], .keep, .keep, .keep, .keep⟩
  | .cbRes6B => ⟨432, some .res, [.value (.bit 6), .value (.reg .b)], 2, [8], .keep, .keep, .keep, .keep⟩
  | .cbRes6C => ⟨433, some .res, [.value (.bit 6), .value (.reg .c)], 2, [8], .keep, .keep, .keep, .keep⟩
  | .cbRes6D => ⟨434, some .res, [.value (.bit 6), .value (.reg .d)], 2, [8], .keep, .keep, .keep, .keep⟩
  | .cbRes6E => ⟨435, some .res, [.value (.bit 6), .value (.reg .e)], 2, [8], .keep, .keep, .keep, .keep⟩
  | .cbRes6H => ⟨436, some .res, [.value (.bit 6), .value (.reg .h)], 2, [8], .keep, .keep, .keep, .keep⟩
  | .cbRes6L => ⟨437, some .res, [.value (.bit 6), .value (.reg .l)], 2, [8], .keep, .keep, .keep, .keep⟩
  | .cbRes6IndHl => ⟨438, some .res, [.value (.bit 6), .address (.pair .hl)], 2, [16], .keep, .keep, .keep, .keep⟩
  | .cbRes6A => ⟨439, some .res, [.value (.bit 6), .value (.reg .a)], 2, [8], .keep, .keep, .keep, .keep⟩
  | .cbRes7B => ⟨440, some .res, [.value (.bit 7), .value (.reg .b)], 2, [8], .keep, .keep, .keep, .keep⟩
  | .cbRes7C => ⟨441, some .res, [.value (.bit 7), .value (.reg .c)], 2, [8], .keep, .keep, .keep, .keep⟩
  | .cbRes7D => ⟨442, some .res, [.value (.bit 7), .value (.reg .d)], 2, [8], .keep, .keep, .keep, .keep⟩
  | .cbRes7E => ⟨443, some .res, [.value (.bit 7), .value (.reg .e)], 2, [8], .keep, .keep, .keep, .keep⟩
  | .cbRes7H => ⟨444, some .res, [.value (.bit 7), .value (.reg .h)], 2, [8], .keep, .keep, .keep, .keep⟩
  | .cbRes7L => ⟨445, some .res, [.value (.bit 7), .value (.reg .l)], 2, [8], .keep, .keep, .keep, .keep⟩
  | .cbRes7IndHl => ⟨446, some .res, [.value (.bit 7), .address (.pair .hl)], 2, [16], .keep, .keep, .keep, .keep⟩
  | .cbRes7A => ⟨447, some .res, [.value (.bit 7), .value (.reg .a)], 2, [8], .keep, .keep, .keep, .keep⟩
  | .cbSet0B => ⟨448, some .set, [.value (.bit 0), .value (.reg .b)], 2, [8], .keep, .keep, .keep, .keep⟩
  | .cbSet0C => ⟨449, some .set, [.value (.bit 0), .value (.reg .c)], 2, [8], .keep, .keep, .keep, .keep⟩
  | .cbSet0D => ⟨450, some .set, [.value (.bit 0), .value (.reg .d)], 2, [8], .keep, .keep, .keep, .keep⟩
  | .cbSet0E => ⟨451, some .set, [.value (.bit 0), .value (.reg .e)], 2, [8], .keep, .keep, .keep, .keep⟩
  | .cbSet0H => ⟨452, some .set, [.value (.bit 0), .value (.reg .h)], 2, [8], .keep, .keep, .keep, .keep⟩
  | .cbSet0L => ⟨453, some .set, [.value (.bit 0), .value (.reg .l)], 2, [8], .keep, .keep, .keep, .keep⟩
  | .cbSet0IndHl => ⟨454, some .set, [.value (.bit 0), .address (.pair .hl)], 2, [16], .keep, .keep, .keep, .keep⟩
  | .cbSet0A => ⟨455, some .set, [.value (.bit 0), .value (.reg .a)], 2, [8], .keep, .keep, .keep, .keep⟩
  | .cbSet1B => ⟨456, some .set, [.value (.bit 1), .value (.reg .b)], 2, [8], .keep, .keep, .keep, .keep⟩
  | .cbSet1C => ⟨457, some .set, [.value (.bit 1), .value (.reg .c)], 2, [8], .keep, .keep, .keep, .keep⟩
  | .cbSet1D => ⟨458, some .set, [.value (.bit 1), .value (.reg .d)], 2, [8], .keep, .keep, .keep, .keep⟩
  | .cbSet1E => ⟨459, some .set, [.value (.bit 1), .value (.reg .e)], 2, [8], .keep, .keep, .keep, .keep⟩
  | .cbSet1H => ⟨460, some .set, [.value (.bit 1), .value (.reg .h)], 2, [8], .keep, .keep, .keep, .keep⟩
  | .cbSet1L => ⟨461, some .set, [.value (.bit 1), .value (.reg .l)], 2, [8], .keep, .keep, .keep, .keep⟩
  | .cbSet1IndHl => ⟨462, some .set, [.value (.bit 1), .address (.pair .hl)], 2, [16], .keep, .keep, .keep, .keep⟩
  | .cbSet1A => ⟨463, some .set, [.value (.bit 1), .value (.reg .a)], 2, [8], .keep, .keep, .keep, .keep⟩
  | .cbSet2B => ⟨464, some .set, [.value (.bit 2), .value (.reg .b)], 2, [8], .keep, .keep, .keep, .keep⟩
  | .cbSet2C => ⟨465, some .set, [.value (.bit 2), .value (.reg .c)], 2, [8], .keep, .keep, .keep, .keep⟩
  | .cbSet2D => ⟨466, some .set, [.value (.bit 2), .value (.reg .d)], 2, [8], .keep, .keep, .keep, .keep⟩
  | .cbSet2E => ⟨467, some .set, [.value (.bit 2), .value (.reg .e)], 2, [8], .keep, .keep, .keep, .keep⟩
  | .cbSet2H => ⟨468, some .set, [.value (.bit 2), .value (.reg .h)], 2, [8], .keep, .keep, .keep, .keep⟩
  | .cbSet2L => ⟨469, some .set, [.value (.bit 2), .value (.reg .l)], 2, [8], .keep, .keep, .keep, .keep⟩
  | .cbSet2IndHl => ⟨470, some .set, [.value (.bit 2), .address (.pair .hl)], 2, [16], .keep, .keep, .keep, .keep⟩
  | .cbSet2A => ⟨471, some .set, [.value (.bit 2), .value (.reg .a)], 2, [8], .keep, .keep, .keep, .keep⟩
  | .cbSet3B => ⟨472, some .set, [.value (.bit 3), .value (.reg .b)], 2, [8], .keep, .keep, .keep, .keep⟩
  | .cbSet3C => ⟨473, some .set, [.value (.bit 3), .value (.reg .c)], 2, [8], .keep, .keep, .keep, .keep⟩
  | .cbSet3D => ⟨474, some .set, [.value (.bit 3), .value (.reg .d)], 2, [8], .keep, .keep, .keep, .keep⟩
  | .cbSet3E => ⟨475, some .set, [.value (.bit 3), .value (.reg .e)], 2, [8], .keep, .keep, .keep, .keep⟩
  | .cbSet3H => ⟨476, some .set, [.value (.bit 3), .value (.reg .h)], 2, [8], .keep, .keep, .keep, .keep⟩
  | .cbSet3L => ⟨477, some .set, [.value (.bit 3), .value (.reg .l)], 2, [8], .keep, .keep, .keep, .keep⟩
  | .cbSet3IndHl => ⟨478, some .set, [.value (.bit 3), .address (.pair .hl)], 2, [16], .keep, .keep, .keep, .keep⟩
  | .cbSet3A => ⟨479, some .set, [.value (.bit 3), .value (.reg .a)], 2, [8], .keep, .keep, .keep, .keep⟩
  | .cbSet4B => ⟨480, some .set, [.value (.bit 4), .value (.reg .b)], 2, [8], .keep, .keep, .keep, .keep⟩
  | .cbSet4C => ⟨481, some .set, [.value (.bit 4), .value (.reg .c)], 2, [8], .keep, .keep, .keep, .keep⟩
  | .cbSet4D => ⟨482, some .set, [.value (.bit 4), .value (.reg .d)], 2, [8], .keep, .keep, .keep, .keep⟩
  | .cbSet4E => ⟨483, some .set, [.value (.bit 4), .value (.reg .e)], 2, [8], .keep, .keep, .keep, .keep⟩
  | .cbSet4H => ⟨484, some .set, [.value (.bit 4), .value (.reg .h)], 2, [8], .keep, .keep, .keep, .keep⟩
  | .cbSet4L => ⟨485, some .set, [.value (.bit 4), .value (.reg .l)], 2, [8], .keep, .keep, .keep, .keep⟩
  | .cbSet4IndHl => ⟨486, some .set, [.value (.bit 4), .address (.pair .hl)], 2, [16], .keep, .keep, .keep, .keep⟩
  | .cbSet4A => ⟨487, some .set, [.value (.bit 4), .value (.reg .a)], 2, [8], .keep, .keep, .keep, .keep⟩
  | .cbSet5B => ⟨488, some .set, [.value (.bit 5), .value (.reg .b)], 2, [8], .keep, .keep, .keep, .keep⟩
  | .cbSet5C => ⟨489, some .set, [.value (.bit 5), .value (.reg .c)], 2, [8], .keep, .keep, .keep, .keep⟩
  | .cbSet5D => ⟨490, some .set, [.value (.bit 5), .value (.reg .d)], 2, [8], .keep, .keep, .keep, .keep⟩
  | .cbSet5E => ⟨491, some .set, [.value (.bit 5), .value (.reg .e)], 2, [8], .keep, .keep, .keep, .keep⟩
  | .cbSet5H => ⟨492, some .set, [.value (.bit 5), .value (.reg .h)], 2, [8], .keep, .keep, .keep, .keep⟩
  | .cbSet5L => ⟨493, some .set, [.value (.bit 5), .value (.reg .l)], 2, [8], .keep, .keep, .keep, .keep⟩
  | .cbSet5IndHl => ⟨494, some .set, [.value (.bit 5), .address (.pair .hl)], 2, [16], .keep, .keep, .keep, .keep⟩
  | .cbSet5A => ⟨495, some .set, [.value (.bit 5), .value (.reg .a)], 2, [8], .keep, .keep, .keep, .keep⟩
  | .cbSet6B => ⟨496, some .set, [.value (.bit 6), .value (.reg .b)], 2, [8], .keep, .keep, .keep, .keep⟩
  | .cbSet6C => ⟨497, some .set, [.value (.bit 6), .value (.reg .c)], 2, [8], .keep, .keep, .keep, .keep⟩
  | .cbSet6D => ⟨498, some .set, [.value (.bit 6), .value (.reg .d)], 2, [8], .keep, .keep, .keep, .keep⟩
  | .cbSet6E => ⟨499, some .set, [.value (.bit 6), .value (.reg .e)], 2, [8], .keep, .keep, .keep, .keep⟩
  | .cbSet6H => ⟨500, some .set, [.value (.bit 6), .value (.reg .h)], 2, [8], .keep, .keep, .keep, .keep⟩
  | .cbSet6L => ⟨501, some .set, [.value (.bit 6), .value (.reg .l)], 2, [8], .keep, .keep, .keep, .keep⟩
  | .cbSet6IndHl => ⟨502, some .set, [.value (.bit 6), .address (.pair .hl)], 2, [16], .keep, .keep, .keep, .keep⟩
  | .cbSet6A => ⟨503, some .set, [.value (.bit 6), .value (.reg .a)], 2, [8], .keep, .keep, .keep, .keep⟩
  | .cbSet7B => ⟨504, some .set, [.value (.bit 7), .value (.reg .b)], 2, [8], .keep, .keep, .keep, .keep⟩
  | .cbSet7C => ⟨505, some .set, [.value (.bit 7), .value (.reg .c)], 2, [8], .keep, .keep, .keep, .keep⟩
  | .cbSet7D => ⟨506, some .set, [.value (.bit 7), .value (.reg .d)], 2, [8], .keep, .keep, .keep, .keep⟩
  | .cbSet7E => ⟨507, some .set, [.value (.bit 7), .value (.reg .e)], 2, [8], .keep, .keep, .keep, .keep⟩
  | .cbSet7H => ⟨508, some .set, [.value (.bit 7), .value (.reg .h)], 2, [8], .keep, .keep, .keep, .keep⟩
  | .cbSet7L => ⟨509, some .set, [.value (.bit 7), .value (.reg .l)], 2, [8], .keep, .keep, .keep, .keep⟩
  | .cbSet7IndHl => ⟨510, some .set, [.value (.bit 7), .address (.pair .hl)], 2, [16], .keep, .keep, .keep, .keep⟩
  | .cbSet7A => ⟨511, some .set, [.value (.bit 7), .value (.reg .a)], 2, [8], .keep, .keep, .keep, .keep⟩

/-- The byte length of an instruction (R110, R115). -/
def Instr.size (i : Instr) : Nat := i.row.bytes

/-! ## Decoding a list of bytes -/

/-- Why a list of bytes gives no instruction. No byte values are refused: the eleven unimplemented slots are instructions of the table (R127). -/
inductive DecodeError where
  /-- There is no byte to decode. -/
  | noBytes
  /-- The list ends inside the instruction that this opcode byte begins. -/
  | truncated (opcode : Byte)
  deriving DecidableEq, Repr

/-- The first instruction of a list of bytes, and the bytes after it (R110, R111; log 13). -/
def decode : List Byte → Except DecodeError (Instr × List Byte)
  | [] => .error .noBytes
  | op :: rest =>
    let i := decodeBytes op (rest.getD 0 0) (rest.getD 1 0)
    if rest.length + 1 < i.size then .error (.truncated op) else .ok (i, (op :: rest).drop i.size)

/-- The bytes of a word numbered as spec/opcode_table.json numbers them, zeros above `nbits`, three bytes in all.
The table's 16-bit rows are the prefixed ones, matched as 0xCBnn: the prefix, the first byte, is bits 15 to 8.
Any other word has its first byte in bits 7 to 0 (log 6). -/
def tableBytes (nbits w : Nat) : List Byte :=
  if nbits = 16 ∧ w / 256 % 256 = Config.cbPrefix.toNat then [Config.cbPrefix, BitVec.ofNat 8 w, 0]
  else
    let v := w % 2 ^ nbits
    [BitVec.ofNat 8 v, BitVec.ofNat 8 (v / 256), BitVec.ofNat 8 (v / 65536)]

/-- What the decoder reads from a word of spec/opcode_table.json. -/
def decodeTableWord (nbits w : Nat) : Option Instr :=
  match decode (tableBytes nbits w) with
  | .ok (i, _) => some i
  | .error _ => none

/-! ## The encoder -/

/-- The bytes of an instruction, opcode by opcode as spec/opcode_table.json has them; 16-bit operands low byte first (R111, R114). -/
def encode : Instr → List Byte
  | .nop => [0x00]
  | .ldBcN16 n => [0x01, lowByte n, highByte n]
  | .ldIndBcA => [0x02]
  | .incBc => [0x03]
  | .incB => [0x04]
  | .decB => [0x05]
  | .ldBN8 n => [0x06, n]
  | .rlca => [0x07]
  | .ldIndA16Sp addr => [0x08, lowByte addr, highByte addr]
  | .addHlBc => [0x09]
  | .ldAIndBc => [0x0A]
  | .decBc => [0x0B]
  | .incC => [0x0C]
  | .decC => [0x0D]
  | .ldCN8 n => [0x0E, n]
  | .rrca => [0x0F]
  | .stop ignored => [0x10, ignored]
  | .ldDeN16 n => [0x11, lowByte n, highByte n]
  | .ldIndDeA => [0x12]
  | .incDe => [0x13]
  | .incD => [0x14]
  | .decD => [0x15]
  | .ldDN8 n => [0x16, n]
  | .rla => [0x17]
  | .jrE8 e => [0x18, e]
  | .addHlDe => [0x19]
  | .ldAIndDe => [0x1A]
  | .decDe => [0x1B]
  | .incE => [0x1C]
  | .decE => [0x1D]
  | .ldEN8 n => [0x1E, n]
  | .rra => [0x1F]
  | .jrNzE8 e => [0x20, e]
  | .ldHlN16 n => [0x21, lowByte n, highByte n]
  | .ldIndHlIncA => [0x22]
  | .incHl => [0x23]
  | .incH => [0x24]
  | .decH => [0x25]
  | .ldHN8 n => [0x26, n]
  | .daa => [0x27]
  | .jrZE8 e => [0x28, e]
  | .addHlHl => [0x29]
  | .ldAIndHlInc => [0x2A]
  | .decHl => [0x2B]
  | .incL => [0x2C]
  | .decL => [0x2D]
  | .ldLN8 n => [0x2E, n]
  | .cpl => [0x2F]
  | .jrNcE8 e => [0x30, e]
  | .ldSpN16 n => [0x31, lowByte n, highByte n]
  | .ldIndHlDecA => [0x32]
  | .incSp => [0x33]
  | .incIndHl => [0x34]
  | .decIndHl => [0x35]
  | .ldIndHlN8 n => [0x36, n]
  | .scf => [0x37]
  | .jrCE8 e => [0x38, e]
  | .addHlSp => [0x39]
  | .ldAIndHlDec => [0x3A]
  | .decSp => [0x3B]
  | .incA => [0x3C]
  | .decA => [0x3D]
  | .ldAN8 n => [0x3E, n]
  | .ccf => [0x3F]
  | .ldBB => [0x40]
  | .ldBC => [0x41]
  | .ldBD => [0x42]
  | .ldBE => [0x43]
  | .ldBH => [0x44]
  | .ldBL => [0x45]
  | .ldBIndHl => [0x46]
  | .ldBA => [0x47]
  | .ldCB => [0x48]
  | .ldCC => [0x49]
  | .ldCD => [0x4A]
  | .ldCE => [0x4B]
  | .ldCH => [0x4C]
  | .ldCL => [0x4D]
  | .ldCIndHl => [0x4E]
  | .ldCA => [0x4F]
  | .ldDB => [0x50]
  | .ldDC => [0x51]
  | .ldDD => [0x52]
  | .ldDE => [0x53]
  | .ldDH => [0x54]
  | .ldDL => [0x55]
  | .ldDIndHl => [0x56]
  | .ldDA => [0x57]
  | .ldEB => [0x58]
  | .ldEC => [0x59]
  | .ldED => [0x5A]
  | .ldEE => [0x5B]
  | .ldEH => [0x5C]
  | .ldEL => [0x5D]
  | .ldEIndHl => [0x5E]
  | .ldEA => [0x5F]
  | .ldHB => [0x60]
  | .ldHC => [0x61]
  | .ldHD => [0x62]
  | .ldHE => [0x63]
  | .ldHH => [0x64]
  | .ldHL => [0x65]
  | .ldHIndHl => [0x66]
  | .ldHA => [0x67]
  | .ldLB => [0x68]
  | .ldLC => [0x69]
  | .ldLD => [0x6A]
  | .ldLE => [0x6B]
  | .ldLH => [0x6C]
  | .ldLL => [0x6D]
  | .ldLIndHl => [0x6E]
  | .ldLA => [0x6F]
  | .ldIndHlB => [0x70]
  | .ldIndHlC => [0x71]
  | .ldIndHlD => [0x72]
  | .ldIndHlE => [0x73]
  | .ldIndHlH => [0x74]
  | .ldIndHlL => [0x75]
  | .halt => [0x76]
  | .ldIndHlA => [0x77]
  | .ldAB => [0x78]
  | .ldAC => [0x79]
  | .ldAD => [0x7A]
  | .ldAE => [0x7B]
  | .ldAH => [0x7C]
  | .ldAL => [0x7D]
  | .ldAIndHl => [0x7E]
  | .ldAA => [0x7F]
  | .addAB => [0x80]
  | .addAC => [0x81]
  | .addAD => [0x82]
  | .addAE => [0x83]
  | .addAH => [0x84]
  | .addAL => [0x85]
  | .addAIndHl => [0x86]
  | .addAA => [0x87]
  | .adcAB => [0x88]
  | .adcAC => [0x89]
  | .adcAD => [0x8A]
  | .adcAE => [0x8B]
  | .adcAH => [0x8C]
  | .adcAL => [0x8D]
  | .adcAIndHl => [0x8E]
  | .adcAA => [0x8F]
  | .subAB => [0x90]
  | .subAC => [0x91]
  | .subAD => [0x92]
  | .subAE => [0x93]
  | .subAH => [0x94]
  | .subAL => [0x95]
  | .subAIndHl => [0x96]
  | .subAA => [0x97]
  | .sbcAB => [0x98]
  | .sbcAC => [0x99]
  | .sbcAD => [0x9A]
  | .sbcAE => [0x9B]
  | .sbcAH => [0x9C]
  | .sbcAL => [0x9D]
  | .sbcAIndHl => [0x9E]
  | .sbcAA => [0x9F]
  | .andAB => [0xA0]
  | .andAC => [0xA1]
  | .andAD => [0xA2]
  | .andAE => [0xA3]
  | .andAH => [0xA4]
  | .andAL => [0xA5]
  | .andAIndHl => [0xA6]
  | .andAA => [0xA7]
  | .xorAB => [0xA8]
  | .xorAC => [0xA9]
  | .xorAD => [0xAA]
  | .xorAE => [0xAB]
  | .xorAH => [0xAC]
  | .xorAL => [0xAD]
  | .xorAIndHl => [0xAE]
  | .xorAA => [0xAF]
  | .orAB => [0xB0]
  | .orAC => [0xB1]
  | .orAD => [0xB2]
  | .orAE => [0xB3]
  | .orAH => [0xB4]
  | .orAL => [0xB5]
  | .orAIndHl => [0xB6]
  | .orAA => [0xB7]
  | .cpAB => [0xB8]
  | .cpAC => [0xB9]
  | .cpAD => [0xBA]
  | .cpAE => [0xBB]
  | .cpAH => [0xBC]
  | .cpAL => [0xBD]
  | .cpAIndHl => [0xBE]
  | .cpAA => [0xBF]
  | .retNz => [0xC0]
  | .popBc => [0xC1]
  | .jpNzA16 addr => [0xC2, lowByte addr, highByte addr]
  | .jpA16 addr => [0xC3, lowByte addr, highByte addr]
  | .callNzA16 addr => [0xC4, lowByte addr, highByte addr]
  | .pushBc => [0xC5]
  | .addAN8 n => [0xC6, n]
  | .rst00 => [0xC7]
  | .retZ => [0xC8]
  | .ret => [0xC9]
  | .jpZA16 addr => [0xCA, lowByte addr, highByte addr]
  | .prefixCb => [0xCB]
  | .callZA16 addr => [0xCC, lowByte addr, highByte addr]
  | .callA16 addr => [0xCD, lowByte addr, highByte addr]
  | .adcAN8 n => [0xCE, n]
  | .rst08 => [0xCF]
  | .retNc => [0xD0]
  | .popDe => [0xD1]
  | .jpNcA16 addr => [0xD2, lowByte addr, highByte addr]
  | .unimplementedD3 => [0xD3]
  | .callNcA16 addr => [0xD4, lowByte addr, highByte addr]
  | .pushDe => [0xD5]
  | .subAN8 n => [0xD6, n]
  | .rst10 => [0xD7]
  | .retC => [0xD8]
  | .reti => [0xD9]
  | .jpCA16 addr => [0xDA, lowByte addr, highByte addr]
  | .unimplementedDB => [0xDB]
  | .callCA16 addr => [0xDC, lowByte addr, highByte addr]
  | .unimplementedDD => [0xDD]
  | .sbcAN8 n => [0xDE, n]
  | .rst18 => [0xDF]
  | .ldhIndA8A n => [0xE0, n]
  | .popHl => [0xE1]
  | .ldIndCA => [0xE2]
  | .unimplementedE3 => [0xE3]
  | .unimplementedE4 => [0xE4]
  | .pushHl => [0xE5]
  | .andAN8 n => [0xE6, n]
  | .rst20 => [0xE7]
  | .addSpE8 e => [0xE8, e]
  | .jpHl => [0xE9]
  | .ldIndA16A addr => [0xEA, lowByte addr, highByte addr]
  | .unimplementedEB => [0xEB]
  | .unimplementedEC => [0xEC]
  | .unimplementedED => [0xED]
  | .xorAN8 n => [0xEE, n]
  | .rst28 => [0xEF]
  | .ldhAIndA8 n => [0xF0, n]
  | .popAf => [0xF1]
  | .ldAIndC => [0xF2]
  | .di => [0xF3]
  | .unimplementedF4 => [0xF4]
  | .pushAf => [0xF5]
  | .orAN8 n => [0xF6, n]
  | .rst30 => [0xF7]
  | .ldHlSpE8 e => [0xF8, e]
  | .ldSpHl => [0xF9]
  | .ldAIndA16 addr => [0xFA, lowByte addr, highByte addr]
  | .ei => [0xFB]
  | .unimplementedFC => [0xFC]
  | .unimplementedFD => [0xFD]
  | .cpAN8 n => [0xFE, n]
  | .rst38 => [0xFF]
  | .cbRlcB => [0xCB, 0x00]
  | .cbRlcC => [0xCB, 0x01]
  | .cbRlcD => [0xCB, 0x02]
  | .cbRlcE => [0xCB, 0x03]
  | .cbRlcH => [0xCB, 0x04]
  | .cbRlcL => [0xCB, 0x05]
  | .cbRlcIndHl => [0xCB, 0x06]
  | .cbRlcA => [0xCB, 0x07]
  | .cbRrcB => [0xCB, 0x08]
  | .cbRrcC => [0xCB, 0x09]
  | .cbRrcD => [0xCB, 0x0A]
  | .cbRrcE => [0xCB, 0x0B]
  | .cbRrcH => [0xCB, 0x0C]
  | .cbRrcL => [0xCB, 0x0D]
  | .cbRrcIndHl => [0xCB, 0x0E]
  | .cbRrcA => [0xCB, 0x0F]
  | .cbRlB => [0xCB, 0x10]
  | .cbRlC => [0xCB, 0x11]
  | .cbRlD => [0xCB, 0x12]
  | .cbRlE => [0xCB, 0x13]
  | .cbRlH => [0xCB, 0x14]
  | .cbRlL => [0xCB, 0x15]
  | .cbRlIndHl => [0xCB, 0x16]
  | .cbRlA => [0xCB, 0x17]
  | .cbRrB => [0xCB, 0x18]
  | .cbRrC => [0xCB, 0x19]
  | .cbRrD => [0xCB, 0x1A]
  | .cbRrE => [0xCB, 0x1B]
  | .cbRrH => [0xCB, 0x1C]
  | .cbRrL => [0xCB, 0x1D]
  | .cbRrIndHl => [0xCB, 0x1E]
  | .cbRrA => [0xCB, 0x1F]
  | .cbSlaB => [0xCB, 0x20]
  | .cbSlaC => [0xCB, 0x21]
  | .cbSlaD => [0xCB, 0x22]
  | .cbSlaE => [0xCB, 0x23]
  | .cbSlaH => [0xCB, 0x24]
  | .cbSlaL => [0xCB, 0x25]
  | .cbSlaIndHl => [0xCB, 0x26]
  | .cbSlaA => [0xCB, 0x27]
  | .cbSraB => [0xCB, 0x28]
  | .cbSraC => [0xCB, 0x29]
  | .cbSraD => [0xCB, 0x2A]
  | .cbSraE => [0xCB, 0x2B]
  | .cbSraH => [0xCB, 0x2C]
  | .cbSraL => [0xCB, 0x2D]
  | .cbSraIndHl => [0xCB, 0x2E]
  | .cbSraA => [0xCB, 0x2F]
  | .cbSwapB => [0xCB, 0x30]
  | .cbSwapC => [0xCB, 0x31]
  | .cbSwapD => [0xCB, 0x32]
  | .cbSwapE => [0xCB, 0x33]
  | .cbSwapH => [0xCB, 0x34]
  | .cbSwapL => [0xCB, 0x35]
  | .cbSwapIndHl => [0xCB, 0x36]
  | .cbSwapA => [0xCB, 0x37]
  | .cbSrlB => [0xCB, 0x38]
  | .cbSrlC => [0xCB, 0x39]
  | .cbSrlD => [0xCB, 0x3A]
  | .cbSrlE => [0xCB, 0x3B]
  | .cbSrlH => [0xCB, 0x3C]
  | .cbSrlL => [0xCB, 0x3D]
  | .cbSrlIndHl => [0xCB, 0x3E]
  | .cbSrlA => [0xCB, 0x3F]
  | .cbBit0B => [0xCB, 0x40]
  | .cbBit0C => [0xCB, 0x41]
  | .cbBit0D => [0xCB, 0x42]
  | .cbBit0E => [0xCB, 0x43]
  | .cbBit0H => [0xCB, 0x44]
  | .cbBit0L => [0xCB, 0x45]
  | .cbBit0IndHl => [0xCB, 0x46]
  | .cbBit0A => [0xCB, 0x47]
  | .cbBit1B => [0xCB, 0x48]
  | .cbBit1C => [0xCB, 0x49]
  | .cbBit1D => [0xCB, 0x4A]
  | .cbBit1E => [0xCB, 0x4B]
  | .cbBit1H => [0xCB, 0x4C]
  | .cbBit1L => [0xCB, 0x4D]
  | .cbBit1IndHl => [0xCB, 0x4E]
  | .cbBit1A => [0xCB, 0x4F]
  | .cbBit2B => [0xCB, 0x50]
  | .cbBit2C => [0xCB, 0x51]
  | .cbBit2D => [0xCB, 0x52]
  | .cbBit2E => [0xCB, 0x53]
  | .cbBit2H => [0xCB, 0x54]
  | .cbBit2L => [0xCB, 0x55]
  | .cbBit2IndHl => [0xCB, 0x56]
  | .cbBit2A => [0xCB, 0x57]
  | .cbBit3B => [0xCB, 0x58]
  | .cbBit3C => [0xCB, 0x59]
  | .cbBit3D => [0xCB, 0x5A]
  | .cbBit3E => [0xCB, 0x5B]
  | .cbBit3H => [0xCB, 0x5C]
  | .cbBit3L => [0xCB, 0x5D]
  | .cbBit3IndHl => [0xCB, 0x5E]
  | .cbBit3A => [0xCB, 0x5F]
  | .cbBit4B => [0xCB, 0x60]
  | .cbBit4C => [0xCB, 0x61]
  | .cbBit4D => [0xCB, 0x62]
  | .cbBit4E => [0xCB, 0x63]
  | .cbBit4H => [0xCB, 0x64]
  | .cbBit4L => [0xCB, 0x65]
  | .cbBit4IndHl => [0xCB, 0x66]
  | .cbBit4A => [0xCB, 0x67]
  | .cbBit5B => [0xCB, 0x68]
  | .cbBit5C => [0xCB, 0x69]
  | .cbBit5D => [0xCB, 0x6A]
  | .cbBit5E => [0xCB, 0x6B]
  | .cbBit5H => [0xCB, 0x6C]
  | .cbBit5L => [0xCB, 0x6D]
  | .cbBit5IndHl => [0xCB, 0x6E]
  | .cbBit5A => [0xCB, 0x6F]
  | .cbBit6B => [0xCB, 0x70]
  | .cbBit6C => [0xCB, 0x71]
  | .cbBit6D => [0xCB, 0x72]
  | .cbBit6E => [0xCB, 0x73]
  | .cbBit6H => [0xCB, 0x74]
  | .cbBit6L => [0xCB, 0x75]
  | .cbBit6IndHl => [0xCB, 0x76]
  | .cbBit6A => [0xCB, 0x77]
  | .cbBit7B => [0xCB, 0x78]
  | .cbBit7C => [0xCB, 0x79]
  | .cbBit7D => [0xCB, 0x7A]
  | .cbBit7E => [0xCB, 0x7B]
  | .cbBit7H => [0xCB, 0x7C]
  | .cbBit7L => [0xCB, 0x7D]
  | .cbBit7IndHl => [0xCB, 0x7E]
  | .cbBit7A => [0xCB, 0x7F]
  | .cbRes0B => [0xCB, 0x80]
  | .cbRes0C => [0xCB, 0x81]
  | .cbRes0D => [0xCB, 0x82]
  | .cbRes0E => [0xCB, 0x83]
  | .cbRes0H => [0xCB, 0x84]
  | .cbRes0L => [0xCB, 0x85]
  | .cbRes0IndHl => [0xCB, 0x86]
  | .cbRes0A => [0xCB, 0x87]
  | .cbRes1B => [0xCB, 0x88]
  | .cbRes1C => [0xCB, 0x89]
  | .cbRes1D => [0xCB, 0x8A]
  | .cbRes1E => [0xCB, 0x8B]
  | .cbRes1H => [0xCB, 0x8C]
  | .cbRes1L => [0xCB, 0x8D]
  | .cbRes1IndHl => [0xCB, 0x8E]
  | .cbRes1A => [0xCB, 0x8F]
  | .cbRes2B => [0xCB, 0x90]
  | .cbRes2C => [0xCB, 0x91]
  | .cbRes2D => [0xCB, 0x92]
  | .cbRes2E => [0xCB, 0x93]
  | .cbRes2H => [0xCB, 0x94]
  | .cbRes2L => [0xCB, 0x95]
  | .cbRes2IndHl => [0xCB, 0x96]
  | .cbRes2A => [0xCB, 0x97]
  | .cbRes3B => [0xCB, 0x98]
  | .cbRes3C => [0xCB, 0x99]
  | .cbRes3D => [0xCB, 0x9A]
  | .cbRes3E => [0xCB, 0x9B]
  | .cbRes3H => [0xCB, 0x9C]
  | .cbRes3L => [0xCB, 0x9D]
  | .cbRes3IndHl => [0xCB, 0x9E]
  | .cbRes3A => [0xCB, 0x9F]
  | .cbRes4B => [0xCB, 0xA0]
  | .cbRes4C => [0xCB, 0xA1]
  | .cbRes4D => [0xCB, 0xA2]
  | .cbRes4E => [0xCB, 0xA3]
  | .cbRes4H => [0xCB, 0xA4]
  | .cbRes4L => [0xCB, 0xA5]
  | .cbRes4IndHl => [0xCB, 0xA6]
  | .cbRes4A => [0xCB, 0xA7]
  | .cbRes5B => [0xCB, 0xA8]
  | .cbRes5C => [0xCB, 0xA9]
  | .cbRes5D => [0xCB, 0xAA]
  | .cbRes5E => [0xCB, 0xAB]
  | .cbRes5H => [0xCB, 0xAC]
  | .cbRes5L => [0xCB, 0xAD]
  | .cbRes5IndHl => [0xCB, 0xAE]
  | .cbRes5A => [0xCB, 0xAF]
  | .cbRes6B => [0xCB, 0xB0]
  | .cbRes6C => [0xCB, 0xB1]
  | .cbRes6D => [0xCB, 0xB2]
  | .cbRes6E => [0xCB, 0xB3]
  | .cbRes6H => [0xCB, 0xB4]
  | .cbRes6L => [0xCB, 0xB5]
  | .cbRes6IndHl => [0xCB, 0xB6]
  | .cbRes6A => [0xCB, 0xB7]
  | .cbRes7B => [0xCB, 0xB8]
  | .cbRes7C => [0xCB, 0xB9]
  | .cbRes7D => [0xCB, 0xBA]
  | .cbRes7E => [0xCB, 0xBB]
  | .cbRes7H => [0xCB, 0xBC]
  | .cbRes7L => [0xCB, 0xBD]
  | .cbRes7IndHl => [0xCB, 0xBE]
  | .cbRes7A => [0xCB, 0xBF]
  | .cbSet0B => [0xCB, 0xC0]
  | .cbSet0C => [0xCB, 0xC1]
  | .cbSet0D => [0xCB, 0xC2]
  | .cbSet0E => [0xCB, 0xC3]
  | .cbSet0H => [0xCB, 0xC4]
  | .cbSet0L => [0xCB, 0xC5]
  | .cbSet0IndHl => [0xCB, 0xC6]
  | .cbSet0A => [0xCB, 0xC7]
  | .cbSet1B => [0xCB, 0xC8]
  | .cbSet1C => [0xCB, 0xC9]
  | .cbSet1D => [0xCB, 0xCA]
  | .cbSet1E => [0xCB, 0xCB]
  | .cbSet1H => [0xCB, 0xCC]
  | .cbSet1L => [0xCB, 0xCD]
  | .cbSet1IndHl => [0xCB, 0xCE]
  | .cbSet1A => [0xCB, 0xCF]
  | .cbSet2B => [0xCB, 0xD0]
  | .cbSet2C => [0xCB, 0xD1]
  | .cbSet2D => [0xCB, 0xD2]
  | .cbSet2E => [0xCB, 0xD3]
  | .cbSet2H => [0xCB, 0xD4]
  | .cbSet2L => [0xCB, 0xD5]
  | .cbSet2IndHl => [0xCB, 0xD6]
  | .cbSet2A => [0xCB, 0xD7]
  | .cbSet3B => [0xCB, 0xD8]
  | .cbSet3C => [0xCB, 0xD9]
  | .cbSet3D => [0xCB, 0xDA]
  | .cbSet3E => [0xCB, 0xDB]
  | .cbSet3H => [0xCB, 0xDC]
  | .cbSet3L => [0xCB, 0xDD]
  | .cbSet3IndHl => [0xCB, 0xDE]
  | .cbSet3A => [0xCB, 0xDF]
  | .cbSet4B => [0xCB, 0xE0]
  | .cbSet4C => [0xCB, 0xE1]
  | .cbSet4D => [0xCB, 0xE2]
  | .cbSet4E => [0xCB, 0xE3]
  | .cbSet4H => [0xCB, 0xE4]
  | .cbSet4L => [0xCB, 0xE5]
  | .cbSet4IndHl => [0xCB, 0xE6]
  | .cbSet4A => [0xCB, 0xE7]
  | .cbSet5B => [0xCB, 0xE8]
  | .cbSet5C => [0xCB, 0xE9]
  | .cbSet5D => [0xCB, 0xEA]
  | .cbSet5E => [0xCB, 0xEB]
  | .cbSet5H => [0xCB, 0xEC]
  | .cbSet5L => [0xCB, 0xED]
  | .cbSet5IndHl => [0xCB, 0xEE]
  | .cbSet5A => [0xCB, 0xEF]
  | .cbSet6B => [0xCB, 0xF0]
  | .cbSet6C => [0xCB, 0xF1]
  | .cbSet6D => [0xCB, 0xF2]
  | .cbSet6E => [0xCB, 0xF3]
  | .cbSet6H => [0xCB, 0xF4]
  | .cbSet6L => [0xCB, 0xF5]
  | .cbSet6IndHl => [0xCB, 0xF6]
  | .cbSet6A => [0xCB, 0xF7]
  | .cbSet7B => [0xCB, 0xF8]
  | .cbSet7C => [0xCB, 0xF9]
  | .cbSet7D => [0xCB, 0xFA]
  | .cbSet7E => [0xCB, 0xFB]
  | .cbSet7H => [0xCB, 0xFC]
  | .cbSet7L => [0xCB, 0xFD]
  | .cbSet7IndHl => [0xCB, 0xFE]
  | .cbSet7A => [0xCB, 0xFF]

end Sys2Proof
end

