-- ==== Sys2Proof/Machine/Flags.lean ====
section
/-! DEFINITION. The flag bits of F and every result and flag computation the spec gives (10_state.md §2, 00_scope.md R14, 43_alu.md, 44_rotate_shift.md, R551). -/

namespace Sys2Proof.Machine

/-- The four flags of F (R35). -/
inductive Flag where
  | z
  | n
  | h
  | c
  deriving DecidableEq, Repr

/-- The bit of F that holds a flag (R35). -/
def Flag.pos : Flag → Nat
  | .z => 7
  | .n => 6
  | .h => 5
  | .c => 4

/-- Test a flag (R37). -/
def getFlag (f : Byte) (x : Flag) : Bool := f.getLsbD x.pos

/-- Set or clear one flag; every other bit of F keeps its value (R31, R37). -/
def putFlag (f : Byte) (x : Flag) (v : Bool) : Byte :=
  (f &&& ~~~((1 : Byte) <<< x.pos)) ||| (BitVec.ofNat 8 v.toNat <<< x.pos)

/-- Write all four flags. -/
def putZnhc (f : Byte) (z n h c : Bool) : Byte :=
  putFlag (putFlag (putFlag (putFlag f .z z) .n n) .h h) .c c

/-- Write Z, N and Hf; Cy keeps its value. -/
def putZnh (f : Byte) (z n h : Bool) : Byte :=
  putFlag (putFlag (putFlag f .z z) .n n) .h h

/-- Write N, Hf and Cy; Z keeps its value. -/
def putNhc (f : Byte) (n h c : Bool) : Byte :=
  putFlag (putFlag (putFlag f .n n) .h h) .c c

/-- `carry_out(a, b, cin, k)` (R14). -/
def carryOut (a b : Nat) (cin : Bool) (k : Nat) : Bool :=
  decide (2 ^ k ≤ a % 2 ^ k + b % 2 ^ k + cin.toNat)

/-- `borrow_out(a, b, cin, k)` (R14). -/
def borrowOut (a b : Nat) (cin : Bool) (k : Nat) : Bool :=
  decide (a % 2 ^ k < b % 2 ^ k + cin.toNat)

/-- A result with its half-carry and carry: the `(res, h, c)` of R351 and R352. -/
structure AluOut where
  res : Byte
  h : Bool
  c : Bool
  deriving DecidableEq, Repr

/-- `Add8(a, b, cin)` (R351). -/
def add8 (a b : Byte) (cin : Bool) : AluOut where
  res := BitVec.ofNat 8 (a.toNat + b.toNat + cin.toNat)
  h := carryOut a.toNat b.toNat cin 4
  c := carryOut a.toNat b.toNat cin 8

/-- `Sub8(a, b, cin)` (R352). -/
def sub8 (a b : Byte) (cin : Bool) : AluOut where
  res := BitVec.ofInt 8 ((a.toNat : Int) - b.toNat - cin.toNat)
  h := borrowOut a.toNat b.toNat cin 4
  c := borrowOut a.toNat b.toNat cin 8

/-- Half-carry of INC: `v[3:0] = 0xF` (R300, R301). -/
def incHalf (v : Byte) : Bool := v &&& 0x0F == 0x0F

/-- Half-carry of DEC: `v[3:0] = 0x0` (R302, R303). -/
def decHalf (v : Byte) : Bool := v &&& 0x0F == 0x00

/-- The correction DAA applies and its new carry; both tests read A before it is changed (R551). -/
def daaCorrection (a : Byte) (n h c : Bool) : Byte × Bool :=
  let low := h || (!n && decide (9 < (a &&& 0x0F).toNat))
  let high := c || (!n && decide (0x99 < a.toNat))
  ((if low then 0x06 else 0x00) ||| (if high then 0x60 else 0x00), high)

/-- The decimal-adjusted accumulator and the new carry (R551). -/
def daa (a : Byte) (n h c : Bool) : Byte × Bool :=
  let k := daaCorrection a n h c
  (if n then a - k.1 else a + k.1, k.2)

/-- A bit as a byte, 0 or 1. -/
def bitByte (b : Bool) : Byte := BitVec.ofNat 8 b.toNat

/-- The new byte and the new carry of a rotate, shift or SWAP of `v` with carry-in `cin` (R405 to R412). -/
def rotate (op : RotOp) (v : Byte) (cin : Bool) : Byte × Bool :=
  match op with
  | .rlc => ((v <<< 1) ||| bitByte (v.getLsbD 7), v.getLsbD 7)
  | .rrc => ((v >>> 1) ||| (bitByte (v.getLsbD 0) <<< 7), v.getLsbD 0)
  | .rl => ((v <<< 1) ||| bitByte cin, v.getLsbD 7)
  | .rr => ((v >>> 1) ||| (bitByte cin <<< 7), v.getLsbD 0)
  | .sla => (v <<< 1, v.getLsbD 7)
  | .sra => ((v >>> 1) ||| (v &&& 0x80), v.getLsbD 0)
  | .swap => (((v &&& 0x0F) <<< 4) ||| (v >>> 4), false)
  | .srl => (v >>> 1, v.getLsbD 0)

/-- `v & ~(1 << b)` (R451). -/
def resBit (b : Fin 8) (v : Byte) : Byte := v &&& ~~~((1 : Byte) <<< b.val)

/-- `v | (1 << b)` (R452). -/
def setBit (b : Fin 8) (v : Byte) : Byte := v ||| ((1 : Byte) <<< b.val)

/-- `sext_16(v)` (R10): the signed displacement of e8. -/
def sext16 (v : Byte) : Word := v.signExtend 16

/-- `zext_16(v)` (R10). -/
def zext16 (v : Byte) : Word := v.zeroExtend 16

end Sys2Proof.Machine
end

