-- ==== Sys2Proof/Machine/State.lean ====
section
/-! DEFINITION. The state of CORE as plain data (10_state.md), the reasons a step can stop, and the state after reset. -/

namespace Sys2Proof.Machine

/-- `run_state` (R42). -/
inductive RunState where
  | running
  | halted
  | stopped
  | fatal
  deriving DecidableEq, Repr

/-- Why a step has no successor. -/
inductive Fault where
  /-- Raised by `step`, and by nothing else, in a state whose run_state is FATAL: cause code 1, UNIMPLEMENTED_OPCODE (R149, R602).
  It carries the recorded `fatal_opcode` and `fatal_pc`. Safe: the spec gives FATAL no successor state. -/
  | unimplementedOpcode (opcode : Byte) (addr : Word)
  deriving DecidableEq, Repr

/-- Why an operation is turned away. -/
inductive Refusal where
  /-- Raised by an arm of `exec` whose instruction has no meaning yet; no arm does. Safe. -/
  | notModelled (mnemonic : String)
  /-- Raised by `construct`, never by a step: the boot image is longer than 256 bytes, cause code 2, BAD_BOOT_IMAGE (R602, R650). Safe: the spec builds no state. -/
  | badBootImage
  deriving DecidableEq, Repr

/-- A memory: (address, byte) pairs, addresses strictly rising, no byte equal to `Config.unlisted` (`Memory.wf` in Ops.lean says so). -/
abbrev Memory := List Host.Cell

/-- Every piece of state the spec gives CORE (R30 to R47). -/
structure State where
  /-- The accumulator (R30). -/
  a : Byte
  /-- The flags register: Z = bit 7, N = 6, Hf = 5, Cy = 4, bits 3:0 zero (R30, R35, R36). -/
  f : Byte
  /-- General-purpose register B, the first of the pair BC (R30, R32). -/
  b : Byte
  /-- General-purpose register C, the second of BC. -/
  c : Byte
  /-- General-purpose register D, the first of DE. -/
  d : Byte
  /-- General-purpose register E, the second of DE. -/
  e : Byte
  /-- General-purpose register H, the first of HL. -/
  h : Byte
  /-- General-purpose register L, the second of HL. -/
  l : Byte
  /-- The program counter (R39). -/
  pc : Word
  /-- The stack pointer (R41). -/
  sp : Word
  /-- `run_state` (R42). -/
  runState : RunState
  /-- The interrupt master enable, written and never read inside CORE (R43, R605). -/
  ime : Bool
  /-- An EI whose effect is still delayed (R43, R152). -/
  imePending : Bool
  /-- Reads of 0x0000 to 0x00FF are served from `boot` (R44). -/
  overlayActive : Bool
  /-- The cycle counter, modulo 2^64 (R45). -/
  cycleCount : BitVec 64
  /-- The opcode of the fatal outcome (R46). -/
  fatalOpcode : Byte
  /-- The address of that opcode (R46). -/
  fatalPc : Word
  /-- The 65,536-byte main space (R47). -/
  main : Memory
  /-- The 256-byte read-only overlay (R47). -/
  boot : Memory
  deriving DecidableEq, Repr

/-- What a meaning and a step answer. -/
abbrev Result := Host.Outcome State Fault Refusal

/-- What `Step()` reports to the host (R16). -/
inductive StepResult where
  /-- `Ok(n)`: the step completed and cost n cycles. -/
  | ok (n : Nat)
  /-- `Fatal(opcode, addr)`. -/
  | fatal (opcode : Byte) (addr : Word)
  deriving DecidableEq, Repr

/-- The machine right after reset, by the reset table R50.
`fatal_opcode` and `fatal_pc` are "unspecified" there: DESIGN CHOICE 0 (log 3, unsafe).
`main` lists nothing and `boot` is the empty image: DESIGN CHOICE (logs 1 and 2, unsafe). -/
def State.reset : State where
  a := Config.resetGpr
  f := Config.resetGpr
  b := Config.resetGpr
  c := Config.resetGpr
  d := Config.resetGpr
  e := Config.resetGpr
  h := Config.resetGpr
  l := Config.resetGpr
  pc := Config.resetPc
  sp := Config.resetSp
  runState := .running
  ime := false
  imePending := false
  overlayActive := true
  cycleCount := 0
  fatalOpcode := 0
  fatalPc := 0
  main := []
  boot := []

end Sys2Proof.Machine
end

