-- ==== Sys2Proof/Machine/Ops.lean ====
section
/-! DEFINITION. The named operations over memory, registers, the stack and the step: each meaning is written over these. -/

namespace Sys2Proof.Machine

/-! ## Memory as data -/

/-- The byte a memory holds at an address. -/
def Memory.read : Memory → Nat → Byte
  | [], _ => Config.unlisted
  | (k, v) :: rest, a => if k = a then v else Memory.read rest a

/-- Put a cell in its place; the address must not be listed yet. -/
def Memory.insert : Memory → Nat → Byte → Memory
  | [], a, v => [(a, v)]
  | (k, w) :: rest, a, v => if a < k then (a, v) :: (k, w) :: rest else (k, w) :: Memory.insert rest a v

/-- Take an address off the list. -/
def Memory.erase (m : Memory) (a : Nat) : Memory := m.filter (fun cell => cell.1 != a)

/-- Write one byte, keeping the canonical form: the value an unlisted address reads as is not listed. -/
def Memory.write (m : Memory) (a : Nat) (v : Byte) : Memory :=
  if v = Config.unlisted then Memory.erase m a else Memory.insert (Memory.erase m a) a v

/-- Addresses strictly rising, from `lo` on. -/
def Memory.rising : Nat → Memory → Bool
  | _, [] => true
  | lo, (k, _) :: rest => decide (lo ≤ k) && Memory.rising (k + 1) rest

/-- The canonical form of a memory of `size` bytes. -/
def Memory.canonical (size : Nat) (m : Memory) : Bool :=
  Memory.rising 0 m && m.all (fun cell => decide (cell.1 < size) && cell.2 != Config.unlisted)

/-- The canonical form of the main space: addresses strictly rising inside the 64 KiB space, no cell equal to what an unlisted address reads as. -/
def Memory.wf (m : Memory) : Bool := Memory.canonical Config.addressSpace m

/-- The memory of `size` bytes that a list of cells describes: a later cell wins, a cell outside is dropped (log 9). -/
def Memory.ofCells (size : Nat) (cells : List Host.Cell) : Memory :=
  cells.foldl (fun m cell => if cell.1 < size then Memory.write m cell.1 cell.2 else m) []

/-- The memory that holds `bytes` from address `a` on and nothing else. -/
def Memory.ofBytes : Nat → List Byte → Memory
  | _, [] => []
  | a, v :: rest => if v = Config.unlisted then Memory.ofBytes (a + 1) rest else (a, v) :: Memory.ofBytes (a + 1) rest

/-! ## The addressable unit (20_memory.md) -/

/-- The overlay is selected for reads of this address (R72, R73). -/
def State.overlaid (s : State) (a : Word) : Bool := s.overlayActive && decide (a.toNat < Config.overlaySize)

/-- `readByte(a)` (R73). -/
def State.readByte (s : State) (a : Word) : Byte :=
  if s.overlaid a then Memory.read s.boot a.toNat else Memory.read s.main a.toNat

/-- `readWord(a)`: little-endian, the second address modulo 2^16 (R74). -/
def State.readWord (s : State) (a : Word) : Word := wordOf (s.readByte (a + 1)) (s.readByte a)

/-- `writeByte(a, v)`: the value goes to `main`; bit 0 written as 1 to 0xFF50 clears the overlay latch (R75). -/
def State.writeByte (s : State) (a : Word) (v : Byte) : State :=
  { s with
    overlayActive := s.overlayActive && !(a == Config.overlayDisableAddr && v.getLsbD 0)
    main := Memory.write s.main a.toNat v }

/-- `MemWrite(a, 2, v)`: low byte first, the second address modulo 2^16 (R76). -/
def State.writeWord (s : State) (a : Word) (v : Word) : State :=
  (s.writeByte a (lowByte v)).writeByte (a + 1) (highByte v)

/-! ## Registers (10_state.md) -/

/-- Read an 8-bit register (R31). -/
def State.reg (s : State) : Reg8 → Byte
  | .b => s.b
  | .c => s.c
  | .d => s.d
  | .e => s.e
  | .h => s.h
  | .l => s.l
  | .a => s.a

/-- Write an 8-bit register (R31). -/
def State.setReg (s : State) (r : Reg8) (v : Byte) : State :=
  match r with
  | .b => { s with b := v }
  | .c => { s with c := v }
  | .d => { s with d := v }
  | .e => { s with e := v }
  | .h => { s with h := v }
  | .l => { s with l := v }
  | .a => { s with a := v }

/-- The pair view BC (R32). -/
def State.bc (s : State) : Word := wordOf s.b s.c

/-- The pair view DE (R32). -/
def State.de (s : State) : Word := wordOf s.d s.e

/-- The pair view HL (R32). -/
def State.hl (s : State) : Word := wordOf s.h s.l

/-- The pair view AF (R32). -/
def State.af (s : State) : Word := wordOf s.a s.f

/-- Write the pair view BC (R33). -/
def State.setBc (s : State) (v : Word) : State := { s with b := highByte v, c := lowByte v }

/-- Write the pair view DE (R33). -/
def State.setDe (s : State) (v : Word) : State := { s with d := highByte v, e := lowByte v }

/-- Write the pair view HL (R33). -/
def State.setHl (s : State) (v : Word) : State := { s with h := highByte v, l := lowByte v }

/-- Write the pair view AF: the low four bits of F are forced to zero (R34). -/
def State.setAf (s : State) (v : Word) : State := { s with a := highByte v, f := lowByte v &&& 0xF0 }

/-- Read rr (R117). -/
def State.pair (s : State) : Pair → Word
  | .bc => s.bc
  | .de => s.de
  | .hl => s.hl
  | .sp => s.sp

/-- Write rr (R117, R33). -/
def State.setPair (s : State) (p : Pair) (v : Word) : State :=
  match p with
  | .bc => s.setBc v
  | .de => s.setDe v
  | .hl => s.setHl v
  | .sp => { s with sp := v }

/-- Read qq (R118). -/
def State.stackPair (s : State) : StackPair → Word
  | .bc => s.bc
  | .de => s.de
  | .hl => s.hl
  | .af => s.af

/-- Write qq (R118, R33, R34). -/
def State.setStackPair (s : State) (q : StackPair) (v : Word) : State :=
  match q with
  | .bc => s.setBc v
  | .de => s.setDe v
  | .hl => s.setHl v
  | .af => s.setAf v

/-! ## Flags of the state -/

/-- Read a flag of F (R37). -/
def State.flag (s : State) (x : Flag) : Bool := getFlag s.f x

/-- Write all four flags. -/
def State.setZnhc (s : State) (z n h c : Bool) : State := { s with f := putZnhc s.f z n h c }

/-- Write Z, N and Hf only. -/
def State.setZnh (s : State) (z n h : Bool) : State := { s with f := putZnh s.f z n h }

/-- Write N, Hf and Cy only. -/
def State.setNhc (s : State) (n h c : Bool) : State := { s with f := putNhc s.f n h c }

/-! ## The stack (41_stack.md) -/

/-- `Push16(v)`: high byte to SP - 1, then low byte to SP - 2 (R250). -/
def State.push16 (s : State) (v : Word) : State :=
  let s1 := { s with sp := s.sp - 1 }
  let s2 := s1.writeByte s1.sp (highByte v)
  let s3 := { s2 with sp := s2.sp - 1 }
  s3.writeByte s3.sp (lowByte v)

/-- The value `Pop16()` returns: low byte from SP, high byte from SP + 1 (R251). -/
def State.popValue (s : State) : Word := s.readWord s.sp

/-- The state after `Pop16()`: SP has moved up by two (R251). -/
def State.popped (s : State) : State := { s with sp := s.sp + 2 }

/-! ## Ends of an instruction -/

/-- `return cycles(cyc)` of an instruction of `len` bytes that does not transfer control: PC = pc0 + len, the cost is added (R146, R150). -/
def finish (len cyc : Nat) (s : State) : Result :=
  .next { s with pc := s.pc + BitVec.ofNat 16 len, cycleCount := s.cycleCount + BitVec.ofNat 64 cyc }

/-- `return cycles(cyc)` after `PC <- target` (R39, R150). -/
def finishAt (target : Word) (cyc : Nat) (s : State) : Result :=
  .next { s with pc := target, cycleCount := s.cycleCount + BitVec.ofNat 64 cyc }

/-- Taking the one exception, `raise Fatal(op, pc0)`: no effect is committed, PC stays at the opcode byte, the diagnostic is recorded and CORE is FATAL (R13, R600, R601).
There is no return from it (R607): only `construct`, the Reset transaction, leaves FATAL. -/
def raiseFatal (op : Byte) (s : State) : Result :=
  .next { s with runState := .fatal, fatalOpcode := op, fatalPc := s.pc }

/-! ## The step (30_encoding.md §8) -/

/-- The instruction at PC: every byte comes through `readByte`, at consecutive addresses modulo 2^16 (R111, R141, R142; log 7). -/
def State.fetchInstr (s : State) : Instr :=
  decodeBytes (s.readByte s.pc) (s.readByte (s.pc + 1)) (s.readByte (s.pc + 2))

/-- The end of a completed step: an EI that was pending before the step takes effect, unless the step cancelled it (R140, R152).
A fatal step commits nothing (R600). -/
def State.promoteIme (arm : Bool) (t : State) : State :=
  if t.runState ≠ .fatal ∧ arm = true ∧ t.imePending = true then { t with ime := true, imePending := false } else t

/-- `promoteIme` on the outcome of an instruction. -/
def endStep (arm : Bool) : Result → Result
  | .next t => .next (t.promoteIme arm)
  | .fault r => .fault r
  | .refused r => .refused r

/-- A step while HALTED or STOPPED: nothing is fetched and nothing changes but the cycle counter (R148). -/
def State.idle (s : State) : State := { s with cycleCount := s.cycleCount + BitVec.ofNat 64 Config.idleCycles }

/-- What a step in FATAL answers: the recorded diagnostic, again (R149). -/
def State.fatalFault (s : State) : Fault := .unimplementedOpcode s.fatalOpcode s.fatalPc

/-- What `Step()` reports, from the state before it and its outcome (R16, R147, R149; log 10). -/
def reportOf (s : State) : Result → Option StepResult
  | .next t =>
    if t.runState = .fatal then some (.fatal t.fatalOpcode t.fatalPc)
    else some (.ok (t.cycleCount - s.cycleCount).toNat)
  | .fault (.unimplementedOpcode op addr) => some (.fatal op addr)
  | .refused _ => none

/-- The cause code of a fault (R602). -/
def Fault.code : Fault → Nat
  | .unimplementedOpcode _ _ => 1

/-- The cause code of a refusal that the spec numbers (R602). -/
def Refusal.code (r : Refusal) : Option Nat := if r = .badBootImage then some 2 else none

/-! ## Reset (70_reset_and_hazards.md) -/

/-- `Reset(BOOT_IMAGE, MEM_INIT)` (R650): an image over 256 bytes is refused, a shorter one is zero-padded, and the whole state is rebuilt. `mem` gives `MEM_INIT` cell by cell (log 9). -/
def construct (img : List Byte) (mem : List Host.Cell) : Except Refusal State :=
  if Config.overlaySize < img.length then .error .badBootImage
  else .ok { State.reset with boot := Memory.ofBytes 0 img, main := Memory.ofCells Config.addressSpace mem }

/-! ## Placing an instruction for the next fetch (the host's withFetchWord; log 8) -/

/-- Put a byte where a read of `a` finds it: `boot` where the overlay is selected, else `main`; no latch is touched. -/
def State.placeByte (s : State) (a : Word) (v : Byte) : State :=
  if s.overlaid a then { s with boot := Memory.write s.boot a.toNat v }
  else { s with main := Memory.write s.main a.toNat v }

/-- Put bytes at consecutive addresses from `a` on. -/
def State.placeBytes (s : State) (a : Word) : List Byte → State
  | [] => s
  | v :: rest => State.placeBytes (s.placeByte a v) (a + 1) rest

/-- The instruction's bytes at PC, in a machine that runs. -/
def State.placeAtPc (s : State) (bytes : List Byte) : State :=
  { s.placeBytes s.pc bytes with runState := .running }

end Sys2Proof.Machine
end

