-- ==== Sys2Proof/Machine/Operands.lean ====
section
/-! DEFINITION. Operand access: effective addresses, the r, s and cc operand forms (20_memory.md R78, 30_encoding.md R116 to R120, 43_alu.md R350, 44_rotate_shift.md R404, 46_control.md R500). -/

namespace Sys2Proof.Machine

/-- `0xFF00 + zext_16(v)`: the address of (a8) and of (C) (R78). -/
def highPage (v : Byte) : Word := 0xFF00 + zext16 v

/-- Read `r[k]`: a register, or the byte at HL when k = 6 (R116). -/
def State.operand (s : State) : Operand8 → Byte
  | .reg r => s.reg r
  | .indHl => s.readByte s.hl

/-- Write `r[k]`. -/
def State.setOperand (s : State) (o : Operand8) (v : Byte) : State :=
  match o with
  | .reg r => s.setReg r v
  | .indHl => s.writeByte s.hl v

/-- The cost k of a prefixed read-modify-write: 8 on a register, 16 on (HL) (R404). -/
def rmwCycles : Operand8 → Nat
  | .reg _ => 8
  | .indHl => 16

/-- The second operand `s` of an accumulator operation (R350). -/
def State.aluSource (s : State) : AluSrc → Byte
  | .reg r => s.reg r
  | .indHl => s.readByte s.hl
  | .imm n => n

/-- The length of an accumulator operation by its operand form (R350). -/
def aluLength : AluSrc → Nat
  | .reg _ => 1
  | .indHl => 1
  | .imm _ => 2

/-- The cost of an accumulator operation by its operand form (R350). -/
def aluCycles : AluSrc → Nat
  | .reg _ => 4
  | .indHl => 8
  | .imm _ => 8

/-- `cond(cc)` (R38, R500). -/
def State.cond (s : State) : Cond → Bool
  | .nz => !s.flag .z
  | .z => s.flag .z
  | .nc => !s.flag .c
  | .c => s.flag .c

end Sys2Proof.Machine
end

