-- ==== Sys2Proof/Machine/Alu.lean ====
section
/-! DEFINITION. Arithmetic and logic (43_alu.md R350 to R364). -/

namespace Sys2Proof.Machine

/-- A becomes the result of an addition or subtraction, with its flags (R353 to R356). -/
def State.setArith (s : State) (sub : Bool) (r : AluOut) : State :=
  { s with a := r.res }.setZnhc (r.res == 0) sub r.h r.c

/-- A becomes the result of a logical operation: N and Cy are cleared, Hf is as given (R357 to R359). -/
def State.setLogic (s : State) (res : Byte) (h : Bool) : State :=
  { s with a := res }.setZnhc (res == 0) false h false

/-- The effect of `alu[y] A,s` with the second operand `v` (R353 to R360). -/
def State.accumulated (s : State) (op : AluOp) (v : Byte) : State :=
  match op with
  | .add => s.setArith false (add8 s.a v false)
  | .adc => s.setArith false (add8 s.a v (s.flag .c))
  | .sub => s.setArith true (sub8 s.a v false)
  | .sbc => s.setArith true (sub8 s.a v (s.flag .c))
  | .and => s.setLogic (s.a &&& v) true
  | .xor => s.setLogic (s.a ^^^ v) false
  | .or => s.setLogic (s.a ||| v) false
  | .cp =>
    let r := sub8 s.a v false
    s.setZnhc (r.res == 0) true r.h r.c

/-- `alu[y] A,s` (R350, R353 to R360). -/
def accumulate (op : AluOp) (src : AluSrc) (s : State) : Result :=
  finish (aluLength src) (aluCycles src) (s.accumulated op (s.aluSource src))

/-- `ADD HL,rr`: N, Hf and Cy are written, Z is not (R361). -/
def addHl (p : Pair) (s : State) : Result :=
  let a := s.hl
  let b := s.pair p
  finish 1 8 ((s.setHl (a + b)).setNhc false (carryOut a.toNat b.toNat false 12) (carryOut a.toNat b.toNat false 16))

/-- The flags of SP + e8: from the unsigned addition of the low byte of SP and the byte e (R362, R363). -/
def State.setSpFlags (s : State) (e : Byte) : State :=
  s.setZnhc false false (carryOut (lowByte s.sp).toNat e.toNat false 4) (carryOut (lowByte s.sp).toNat e.toNat false 8)

/-- `ADD SP,e8` (R362). -/
def addSp (e : Byte) (s : State) : Result :=
  finish 2 16 { s.setSpFlags e with sp := s.sp + sext16 e }

/-- `LD HL,SP+e8` (R363). -/
def loadHlSp (e : Byte) (s : State) : Result :=
  finish 2 12 ((s.setSpFlags e).setHl (s.sp + sext16 e))

/-- ADD HL,BC (0x09), R361. -/
def execAddHlBc (s : State) : Result := addHl .bc s

/-- ADD HL,DE (0x19), R361. -/
def execAddHlDe (s : State) : Result := addHl .de s

/-- ADD HL,HL (0x29), R361. -/
def execAddHlHl (s : State) : Result := addHl .hl s

/-- ADD HL,SP (0x39), R361. -/
def execAddHlSp (s : State) : Result := addHl .sp s

/-- ADD A,B (0x80), R353. -/
def execAddAB (s : State) : Result := accumulate .add (.reg .b) s

/-- ADD A,C (0x81), R353. -/
def execAddAC (s : State) : Result := accumulate .add (.reg .c) s

/-- ADD A,D (0x82), R353. -/
def execAddAD (s : State) : Result := accumulate .add (.reg .d) s

/-- ADD A,E (0x83), R353. -/
def execAddAE (s : State) : Result := accumulate .add (.reg .e) s

/-- ADD A,H (0x84), R353. -/
def execAddAH (s : State) : Result := accumulate .add (.reg .h) s

/-- ADD A,L (0x85), R353. -/
def execAddAL (s : State) : Result := accumulate .add (.reg .l) s

/-- ADD A,(HL) (0x86), R353. -/
def execAddAIndHl (s : State) : Result := accumulate .add .indHl s

/-- ADD A,A (0x87), R353. -/
def execAddAA (s : State) : Result := accumulate .add (.reg .a) s

/-- ADC A,B (0x88), R354. -/
def execAdcAB (s : State) : Result := accumulate .adc (.reg .b) s

/-- ADC A,C (0x89), R354. -/
def execAdcAC (s : State) : Result := accumulate .adc (.reg .c) s

/-- ADC A,D (0x8A), R354. -/
def execAdcAD (s : State) : Result := accumulate .adc (.reg .d) s

/-- ADC A,E (0x8B), R354. -/
def execAdcAE (s : State) : Result := accumulate .adc (.reg .e) s

/-- ADC A,H (0x8C), R354. -/
def execAdcAH (s : State) : Result := accumulate .adc (.reg .h) s

/-- ADC A,L (0x8D), R354. -/
def execAdcAL (s : State) : Result := accumulate .adc (.reg .l) s

/-- ADC A,(HL) (0x8E), R354. -/
def execAdcAIndHl (s : State) : Result := accumulate .adc .indHl s

/-- ADC A,A (0x8F), R354. -/
def execAdcAA (s : State) : Result := accumulate .adc (.reg .a) s

/-- SUB A,B (0x90), R355. -/
def execSubAB (s : State) : Result := accumulate .sub (.reg .b) s

/-- SUB A,C (0x91), R355. -/
def execSubAC (s : State) : Result := accumulate .sub (.reg .c) s

/-- SUB A,D (0x92), R355. -/
def execSubAD (s : State) : Result := accumulate .sub (.reg .d) s

/-- SUB A,E (0x93), R355. -/
def execSubAE (s : State) : Result := accumulate .sub (.reg .e) s

/-- SUB A,H (0x94), R355. -/
def execSubAH (s : State) : Result := accumulate .sub (.reg .h) s

/-- SUB A,L (0x95), R355. -/
def execSubAL (s : State) : Result := accumulate .sub (.reg .l) s

/-- SUB A,(HL) (0x96), R355. -/
def execSubAIndHl (s : State) : Result := accumulate .sub .indHl s

/-- SUB A,A (0x97), R355. -/
def execSubAA (s : State) : Result := accumulate .sub (.reg .a) s

/-- SBC A,B (0x98), R356. -/
def execSbcAB (s : State) : Result := accumulate .sbc (.reg .b) s

/-- SBC A,C (0x99), R356. -/
def execSbcAC (s : State) : Result := accumulate .sbc (.reg .c) s

/-- SBC A,D (0x9A), R356. -/
def execSbcAD (s : State) : Result := accumulate .sbc (.reg .d) s

/-- SBC A,E (0x9B), R356. -/
def execSbcAE (s : State) : Result := accumulate .sbc (.reg .e) s

/-- SBC A,H (0x9C), R356. -/
def execSbcAH (s : State) : Result := accumulate .sbc (.reg .h) s

/-- SBC A,L (0x9D), R356. -/
def execSbcAL (s : State) : Result := accumulate .sbc (.reg .l) s

/-- SBC A,(HL) (0x9E), R356. -/
def execSbcAIndHl (s : State) : Result := accumulate .sbc .indHl s

/-- SBC A,A (0x9F), R356. -/
def execSbcAA (s : State) : Result := accumulate .sbc (.reg .a) s

/-- AND A,B (0xA0), R357. -/
def execAndAB (s : State) : Result := accumulate .and (.reg .b) s

/-- AND A,C (0xA1), R357. -/
def execAndAC (s : State) : Result := accumulate .and (.reg .c) s

/-- AND A,D (0xA2), R357. -/
def execAndAD (s : State) : Result := accumulate .and (.reg .d) s

/-- AND A,E (0xA3), R357. -/
def execAndAE (s : State) : Result := accumulate .and (.reg .e) s

/-- AND A,H (0xA4), R357. -/
def execAndAH (s : State) : Result := accumulate .and (.reg .h) s

/-- AND A,L (0xA5), R357. -/
def execAndAL (s : State) : Result := accumulate .and (.reg .l) s

/-- AND A,(HL) (0xA6), R357. -/
def execAndAIndHl (s : State) : Result := accumulate .and .indHl s

/-- AND A,A (0xA7), R357. -/
def execAndAA (s : State) : Result := accumulate .and (.reg .a) s

/-- XOR A,B (0xA8), R358. -/
def execXorAB (s : State) : Result := accumulate .xor (.reg .b) s

/-- XOR A,C (0xA9), R358. -/
def execXorAC (s : State) : Result := accumulate .xor (.reg .c) s

/-- XOR A,D (0xAA), R358. -/
def execXorAD (s : State) : Result := accumulate .xor (.reg .d) s

/-- XOR A,E (0xAB), R358. -/
def execXorAE (s : State) : Result := accumulate .xor (.reg .e) s

/-- XOR A,H (0xAC), R358. -/
def execXorAH (s : State) : Result := accumulate .xor (.reg .h) s

/-- XOR A,L (0xAD), R358. -/
def execXorAL (s : State) : Result := accumulate .xor (.reg .l) s

/-- XOR A,(HL) (0xAE), R358. -/
def execXorAIndHl (s : State) : Result := accumulate .xor .indHl s

/-- XOR A,A (0xAF), R358. -/
def execXorAA (s : State) : Result := accumulate .xor (.reg .a) s

/-- OR A,B (0xB0), R359. -/
def execOrAB (s : State) : Result := accumulate .or (.reg .b) s

/-- OR A,C (0xB1), R359. -/
def execOrAC (s : State) : Result := accumulate .or (.reg .c) s

/-- OR A,D (0xB2), R359. -/
def execOrAD (s : State) : Result := accumulate .or (.reg .d) s

/-- OR A,E (0xB3), R359. -/
def execOrAE (s : State) : Result := accumulate .or (.reg .e) s

/-- OR A,H (0xB4), R359. -/
def execOrAH (s : State) : Result := accumulate .or (.reg .h) s

/-- OR A,L (0xB5), R359. -/
def execOrAL (s : State) : Result := accumulate .or (.reg .l) s

/-- OR A,(HL) (0xB6), R359. -/
def execOrAIndHl (s : State) : Result := accumulate .or .indHl s

/-- OR A,A (0xB7), R359. -/
def execOrAA (s : State) : Result := accumulate .or (.reg .a) s

/-- CP A,B (0xB8), R360. -/
def execCpAB (s : State) : Result := accumulate .cp (.reg .b) s

/-- CP A,C (0xB9), R360. -/
def execCpAC (s : State) : Result := accumulate .cp (.reg .c) s

/-- CP A,D (0xBA), R360. -/
def execCpAD (s : State) : Result := accumulate .cp (.reg .d) s

/-- CP A,E (0xBB), R360. -/
def execCpAE (s : State) : Result := accumulate .cp (.reg .e) s

/-- CP A,H (0xBC), R360. -/
def execCpAH (s : State) : Result := accumulate .cp (.reg .h) s

/-- CP A,L (0xBD), R360. -/
def execCpAL (s : State) : Result := accumulate .cp (.reg .l) s

/-- CP A,(HL) (0xBE), R360. -/
def execCpAIndHl (s : State) : Result := accumulate .cp .indHl s

/-- CP A,A (0xBF), R360. -/
def execCpAA (s : State) : Result := accumulate .cp (.reg .a) s

/-- ADD A,n8 (0xC6), R353. -/
def execAddAN8 (n : Byte) (s : State) : Result := accumulate .add (.imm n) s

/-- ADC A,n8 (0xCE), R354. -/
def execAdcAN8 (n : Byte) (s : State) : Result := accumulate .adc (.imm n) s

/-- SUB A,n8 (0xD6), R355. -/
def execSubAN8 (n : Byte) (s : State) : Result := accumulate .sub (.imm n) s

/-- SBC A,n8 (0xDE), R356. -/
def execSbcAN8 (n : Byte) (s : State) : Result := accumulate .sbc (.imm n) s

/-- AND A,n8 (0xE6), R357. -/
def execAndAN8 (n : Byte) (s : State) : Result := accumulate .and (.imm n) s

/-- ADD SP,e8 (0xE8), R362. -/
def execAddSpE8 (e : Byte) (s : State) : Result := addSp e s

/-- XOR A,n8 (0xEE), R358. -/
def execXorAN8 (n : Byte) (s : State) : Result := accumulate .xor (.imm n) s

/-- OR A,n8 (0xF6), R359. -/
def execOrAN8 (n : Byte) (s : State) : Result := accumulate .or (.imm n) s

/-- LD HL,SP+e8 (0xF8), R363. -/
def execLdHlSpE8 (e : Byte) (s : State) : Result := loadHlSp e s

/-- CP A,n8 (0xFE), R360. -/
def execCpAN8 (n : Byte) (s : State) : Result := accumulate .cp (.imm n) s

end Sys2Proof.Machine
end

