-- ==== Sys2Proof/Machine/BitOps.lean ====
section
/-! DEFINITION. Bit test, clear and set (45_bit.md R450 to R452). -/

namespace Sys2Proof.Machine

/-- The cost of BIT: 8 on a register, 12 on (HL) (R450). -/
def bitCycles : Operand8 → Nat
  | .reg _ => 8
  | .indHl => 12

/-- `BIT b,r`: Z, N and Hf are written; no register or memory byte is (R450). -/
def testBit (b : Fin 8) (o : Operand8) (s : State) : Result :=
  finish 2 (bitCycles o) (s.setZnh (!(s.operand o).getLsbD b.val) false true)

/-- `RES b,r`: no flag is written; the byte is written back even when it does not change (R451). -/
def clearBit (b : Fin 8) (o : Operand8) (s : State) : Result :=
  finish 2 (rmwCycles o) (s.setOperand o (resBit b (s.operand o)))

/-- `SET b,r` (R452). -/
def raiseBit (b : Fin 8) (o : Operand8) (s : State) : Result :=
  finish 2 (rmwCycles o) (s.setOperand o (setBit b (s.operand o)))

/-- BIT 0,B (0xCB 0x40), R450. -/
def execCbBit0B (s : State) : Result := testBit 0 (.reg .b) s

/-- BIT 0,C (0xCB 0x41), R450. -/
def execCbBit0C (s : State) : Result := testBit 0 (.reg .c) s

/-- BIT 0,D (0xCB 0x42), R450. -/
def execCbBit0D (s : State) : Result := testBit 0 (.reg .d) s

/-- BIT 0,E (0xCB 0x43), R450. -/
def execCbBit0E (s : State) : Result := testBit 0 (.reg .e) s

/-- BIT 0,H (0xCB 0x44), R450. -/
def execCbBit0H (s : State) : Result := testBit 0 (.reg .h) s

/-- BIT 0,L (0xCB 0x45), R450. -/
def execCbBit0L (s : State) : Result := testBit 0 (.reg .l) s

/-- BIT 0,(HL) (0xCB 0x46), R450. -/
def execCbBit0IndHl (s : State) : Result := testBit 0 .indHl s

/-- BIT 0,A (0xCB 0x47), R450. -/
def execCbBit0A (s : State) : Result := testBit 0 (.reg .a) s

/-- BIT 1,B (0xCB 0x48), R450. -/
def execCbBit1B (s : State) : Result := testBit 1 (.reg .b) s

/-- BIT 1,C (0xCB 0x49), R450. -/
def execCbBit1C (s : State) : Result := testBit 1 (.reg .c) s

/-- BIT 1,D (0xCB 0x4A), R450. -/
def execCbBit1D (s : State) : Result := testBit 1 (.reg .d) s

/-- BIT 1,E (0xCB 0x4B), R450. -/
def execCbBit1E (s : State) : Result := testBit 1 (.reg .e) s

/-- BIT 1,H (0xCB 0x4C), R450. -/
def execCbBit1H (s : State) : Result := testBit 1 (.reg .h) s

/-- BIT 1,L (0xCB 0x4D), R450. -/
def execCbBit1L (s : State) : Result := testBit 1 (.reg .l) s

/-- BIT 1,(HL) (0xCB 0x4E), R450. -/
def execCbBit1IndHl (s : State) : Result := testBit 1 .indHl s

/-- BIT 1,A (0xCB 0x4F), R450. -/
def execCbBit1A (s : State) : Result := testBit 1 (.reg .a) s

/-- BIT 2,B (0xCB 0x50), R450. -/
def execCbBit2B (s : State) : Result := testBit 2 (.reg .b) s

/-- BIT 2,C (0xCB 0x51), R450. -/
def execCbBit2C (s : State) : Result := testBit 2 (.reg .c) s

/-- BIT 2,D (0xCB 0x52), R450. -/
def execCbBit2D (s : State) : Result := testBit 2 (.reg .d) s

/-- BIT 2,E (0xCB 0x53), R450. -/
def execCbBit2E (s : State) : Result := testBit 2 (.reg .e) s

/-- BIT 2,H (0xCB 0x54), R450. -/
def execCbBit2H (s : State) : Result := testBit 2 (.reg .h) s

/-- BIT 2,L (0xCB 0x55), R450. -/
def execCbBit2L (s : State) : Result := testBit 2 (.reg .l) s

/-- BIT 2,(HL) (0xCB 0x56), R450. -/
def execCbBit2IndHl (s : State) : Result := testBit 2 .indHl s

/-- BIT 2,A (0xCB 0x57), R450. -/
def execCbBit2A (s : State) : Result := testBit 2 (.reg .a) s

/-- BIT 3,B (0xCB 0x58), R450. -/
def execCbBit3B (s : State) : Result := testBit 3 (.reg .b) s

/-- BIT 3,C (0xCB 0x59), R450. -/
def execCbBit3C (s : State) : Result := testBit 3 (.reg .c) s

/-- BIT 3,D (0xCB 0x5A), R450. -/
def execCbBit3D (s : State) : Result := testBit 3 (.reg .d) s

/-- BIT 3,E (0xCB 0x5B), R450. -/
def execCbBit3E (s : State) : Result := testBit 3 (.reg .e) s

/-- BIT 3,H (0xCB 0x5C), R450. -/
def execCbBit3H (s : State) : Result := testBit 3 (.reg .h) s

/-- BIT 3,L (0xCB 0x5D), R450. -/
def execCbBit3L (s : State) : Result := testBit 3 (.reg .l) s

/-- BIT 3,(HL) (0xCB 0x5E), R450. -/
def execCbBit3IndHl (s : State) : Result := testBit 3 .indHl s

/-- BIT 3,A (0xCB 0x5F), R450. -/
def execCbBit3A (s : State) : Result := testBit 3 (.reg .a) s

/-- BIT 4,B (0xCB 0x60), R450. -/
def execCbBit4B (s : State) : Result := testBit 4 (.reg .b) s

/-- BIT 4,C (0xCB 0x61), R450. -/
def execCbBit4C (s : State) : Result := testBit 4 (.reg .c) s

/-- BIT 4,D (0xCB 0x62), R450. -/
def execCbBit4D (s : State) : Result := testBit 4 (.reg .d) s

/-- BIT 4,E (0xCB 0x63), R450. -/
def execCbBit4E (s : State) : Result := testBit 4 (.reg .e) s

/-- BIT 4,H (0xCB 0x64), R450. -/
def execCbBit4H (s : State) : Result := testBit 4 (.reg .h) s

/-- BIT 4,L (0xCB 0x65), R450. -/
def execCbBit4L (s : State) : Result := testBit 4 (.reg .l) s

/-- BIT 4,(HL) (0xCB 0x66), R450. -/
def execCbBit4IndHl (s : State) : Result := testBit 4 .indHl s

/-- BIT 4,A (0xCB 0x67), R450. -/
def execCbBit4A (s : State) : Result := testBit 4 (.reg .a) s

/-- BIT 5,B (0xCB 0x68), R450. -/
def execCbBit5B (s : State) : Result := testBit 5 (.reg .b) s

/-- BIT 5,C (0xCB 0x69), R450. -/
def execCbBit5C (s : State) : Result := testBit 5 (.reg .c) s

/-- BIT 5,D (0xCB 0x6A), R450. -/
def execCbBit5D (s : State) : Result := testBit 5 (.reg .d) s

/-- BIT 5,E (0xCB 0x6B), R450. -/
def execCbBit5E (s : State) : Result := testBit 5 (.reg .e) s

/-- BIT 5,H (0xCB 0x6C), R450. -/
def execCbBit5H (s : State) : Result := testBit 5 (.reg .h) s

/-- BIT 5,L (0xCB 0x6D), R450. -/
def execCbBit5L (s : State) : Result := testBit 5 (.reg .l) s

/-- BIT 5,(HL) (0xCB 0x6E), R450. -/
def execCbBit5IndHl (s : State) : Result := testBit 5 .indHl s

/-- BIT 5,A (0xCB 0x6F), R450. -/
def execCbBit5A (s : State) : Result := testBit 5 (.reg .a) s

/-- BIT 6,B (0xCB 0x70), R450. -/
def execCbBit6B (s : State) : Result := testBit 6 (.reg .b) s

/-- BIT 6,C (0xCB 0x71), R450. -/
def execCbBit6C (s : State) : Result := testBit 6 (.reg .c) s

/-- BIT 6,D (0xCB 0x72), R450. -/
def execCbBit6D (s : State) : Result := testBit 6 (.reg .d) s

/-- BIT 6,E (0xCB 0x73), R450. -/
def execCbBit6E (s : State) : Result := testBit 6 (.reg .e) s

/-- BIT 6,H (0xCB 0x74), R450. -/
def execCbBit6H (s : State) : Result := testBit 6 (.reg .h) s

/-- BIT 6,L (0xCB 0x75), R450. -/
def execCbBit6L (s : State) : Result := testBit 6 (.reg .l) s

/-- BIT 6,(HL) (0xCB 0x76), R450. -/
def execCbBit6IndHl (s : State) : Result := testBit 6 .indHl s

/-- BIT 6,A (0xCB 0x77), R450. -/
def execCbBit6A (s : State) : Result := testBit 6 (.reg .a) s

/-- BIT 7,B (0xCB 0x78), R450. -/
def execCbBit7B (s : State) : Result := testBit 7 (.reg .b) s

/-- BIT 7,C (0xCB 0x79), R450. -/
def execCbBit7C (s : State) : Result := testBit 7 (.reg .c) s

/-- BIT 7,D (0xCB 0x7A), R450. -/
def execCbBit7D (s : State) : Result := testBit 7 (.reg .d) s

/-- BIT 7,E (0xCB 0x7B), R450. -/
def execCbBit7E (s : State) : Result := testBit 7 (.reg .e) s

/-- BIT 7,H (0xCB 0x7C), R450. -/
def execCbBit7H (s : State) : Result := testBit 7 (.reg .h) s

/-- BIT 7,L (0xCB 0x7D), R450. -/
def execCbBit7L (s : State) : Result := testBit 7 (.reg .l) s

/-- BIT 7,(HL) (0xCB 0x7E), R450. -/
def execCbBit7IndHl (s : State) : Result := testBit 7 .indHl s

/-- BIT 7,A (0xCB 0x7F), R450. -/
def execCbBit7A (s : State) : Result := testBit 7 (.reg .a) s

/-- RES 0,B (0xCB 0x80), R451. -/
def execCbRes0B (s : State) : Result := clearBit 0 (.reg .b) s

/-- RES 0,C (0xCB 0x81), R451. -/
def execCbRes0C (s : State) : Result := clearBit 0 (.reg .c) s

/-- RES 0,D (0xCB 0x82), R451. -/
def execCbRes0D (s : State) : Result := clearBit 0 (.reg .d) s

/-- RES 0,E (0xCB 0x83), R451. -/
def execCbRes0E (s : State) : Result := clearBit 0 (.reg .e) s

/-- RES 0,H (0xCB 0x84), R451. -/
def execCbRes0H (s : State) : Result := clearBit 0 (.reg .h) s

/-- RES 0,L (0xCB 0x85), R451. -/
def execCbRes0L (s : State) : Result := clearBit 0 (.reg .l) s

/-- RES 0,(HL) (0xCB 0x86), R451. -/
def execCbRes0IndHl (s : State) : Result := clearBit 0 .indHl s

/-- RES 0,A (0xCB 0x87), R451. -/
def execCbRes0A (s : State) : Result := clearBit 0 (.reg .a) s

/-- RES 1,B (0xCB 0x88), R451. -/
def execCbRes1B (s : State) : Result := clearBit 1 (.reg .b) s

/-- RES 1,C (0xCB 0x89), R451. -/
def execCbRes1C (s : State) : Result := clearBit 1 (.reg .c) s

/-- RES 1,D (0xCB 0x8A), R451. -/
def execCbRes1D (s : State) : Result := clearBit 1 (.reg .d) s

/-- RES 1,E (0xCB 0x8B), R451. -/
def execCbRes1E (s : State) : Result := clearBit 1 (.reg .e) s

/-- RES 1,H (0xCB 0x8C), R451. -/
def execCbRes1H (s : State) : Result := clearBit 1 (.reg .h) s

/-- RES 1,L (0xCB 0x8D), R451. -/
def execCbRes1L (s : State) : Result := clearBit 1 (.reg .l) s

/-- RES 1,(HL) (0xCB 0x8E), R451. -/
def execCbRes1IndHl (s : State) : Result := clearBit 1 .indHl s

/-- RES 1,A (0xCB 0x8F), R451. -/
def execCbRes1A (s : State) : Result := clearBit 1 (.reg .a) s

/-- RES 2,B (0xCB 0x90), R451. -/
def execCbRes2B (s : State) : Result := clearBit 2 (.reg .b) s

/-- RES 2,C (0xCB 0x91), R451. -/
def execCbRes2C (s : State) : Result := clearBit 2 (.reg .c) s

/-- RES 2,D (0xCB 0x92), R451. -/
def execCbRes2D (s : State) : Result := clearBit 2 (.reg .d) s

/-- RES 2,E (0xCB 0x93), R451. -/
def execCbRes2E (s : State) : Result := clearBit 2 (.reg .e) s

/-- RES 2,H (0xCB 0x94), R451. -/
def execCbRes2H (s : State) : Result := clearBit 2 (.reg .h) s

/-- RES 2,L (0xCB 0x95), R451. -/
def execCbRes2L (s : State) : Result := clearBit 2 (.reg .l) s

/-- RES 2,(HL) (0xCB 0x96), R451. -/
def execCbRes2IndHl (s : State) : Result := clearBit 2 .indHl s

/-- RES 2,A (0xCB 0x97), R451. -/
def execCbRes2A (s : State) : Result := clearBit 2 (.reg .a) s

/-- RES 3,B (0xCB 0x98), R451. -/
def execCbRes3B (s : State) : Result := clearBit 3 (.reg .b) s

/-- RES 3,C (0xCB 0x99), R451. -/
def execCbRes3C (s : State) : Result := clearBit 3 (.reg .c) s

/-- RES 3,D (0xCB 0x9A), R451. -/
def execCbRes3D (s : State) : Result := clearBit 3 (.reg .d) s

/-- RES 3,E (0xCB 0x9B), R451. -/
def execCbRes3E (s : State) : Result := clearBit 3 (.reg .e) s

/-- RES 3,H (0xCB 0x9C), R451. -/
def execCbRes3H (s : State) : Result := clearBit 3 (.reg .h) s

/-- RES 3,L (0xCB 0x9D), R451. -/
def execCbRes3L (s : State) : Result := clearBit 3 (.reg .l) s

/-- RES 3,(HL) (0xCB 0x9E), R451. -/
def execCbRes3IndHl (s : State) : Result := clearBit 3 .indHl s

/-- RES 3,A (0xCB 0x9F), R451. -/
def execCbRes3A (s : State) : Result := clearBit 3 (.reg .a) s

/-- RES 4,B (0xCB 0xA0), R451. -/
def execCbRes4B (s : State) : Result := clearBit 4 (.reg .b) s

/-- RES 4,C (0xCB 0xA1), R451. -/
def execCbRes4C (s : State) : Result := clearBit 4 (.reg .c) s

/-- RES 4,D (0xCB 0xA2), R451. -/
def execCbRes4D (s : State) : Result := clearBit 4 (.reg .d) s

/-- RES 4,E (0xCB 0xA3), R451. -/
def execCbRes4E (s : State) : Result := clearBit 4 (.reg .e) s

/-- RES 4,H (0xCB 0xA4), R451. -/
def execCbRes4H (s : State) : Result := clearBit 4 (.reg .h) s

/-- RES 4,L (0xCB 0xA5), R451. -/
def execCbRes4L (s : State) : Result := clearBit 4 (.reg .l) s

/-- RES 4,(HL) (0xCB 0xA6), R451. -/
def execCbRes4IndHl (s : State) : Result := clearBit 4 .indHl s

/-- RES 4,A (0xCB 0xA7), R451. -/
def execCbRes4A (s : State) : Result := clearBit 4 (.reg .a) s

/-- RES 5,B (0xCB 0xA8), R451. -/
def execCbRes5B (s : State) : Result := clearBit 5 (.reg .b) s

/-- RES 5,C (0xCB 0xA9), R451. -/
def execCbRes5C (s : State) : Result := clearBit 5 (.reg .c) s

/-- RES 5,D (0xCB 0xAA), R451. -/
def execCbRes5D (s : State) : Result := clearBit 5 (.reg .d) s

/-- RES 5,E (0xCB 0xAB), R451. -/
def execCbRes5E (s : State) : Result := clearBit 5 (.reg .e) s

/-- RES 5,H (0xCB 0xAC), R451. -/
def execCbRes5H (s : State) : Result := clearBit 5 (.reg .h) s

/-- RES 5,L (0xCB 0xAD), R451. -/
def execCbRes5L (s : State) : Result := clearBit 5 (.reg .l) s

/-- RES 5,(HL) (0xCB 0xAE), R451. -/
def execCbRes5IndHl (s : State) : Result := clearBit 5 .indHl s

/-- RES 5,A (0xCB 0xAF), R451. -/
def execCbRes5A (s : State) : Result := clearBit 5 (.reg .a) s

/-- RES 6,B (0xCB 0xB0), R451. -/
def execCbRes6B (s : State) : Result := clearBit 6 (.reg .b) s

/-- RES 6,C (0xCB 0xB1), R451. -/
def execCbRes6C (s : State) : Result := clearBit 6 (.reg .c) s

/-- RES 6,D (0xCB 0xB2), R451. -/
def execCbRes6D (s : State) : Result := clearBit 6 (.reg .d) s

/-- RES 6,E (0xCB 0xB3), R451. -/
def execCbRes6E (s : State) : Result := clearBit 6 (.reg .e) s

/-- RES 6,H (0xCB 0xB4), R451. -/
def execCbRes6H (s : State) : Result := clearBit 6 (.reg .h) s

/-- RES 6,L (0xCB 0xB5), R451. -/
def execCbRes6L (s : State) : Result := clearBit 6 (.reg .l) s

/-- RES 6,(HL) (0xCB 0xB6), R451. -/
def execCbRes6IndHl (s : State) : Result := clearBit 6 .indHl s

/-- RES 6,A (0xCB 0xB7), R451. -/
def execCbRes6A (s : State) : Result := clearBit 6 (.reg .a) s

/-- RES 7,B (0xCB 0xB8), R451. -/
def execCbRes7B (s : State) : Result := clearBit 7 (.reg .b) s

/-- RES 7,C (0xCB 0xB9), R451. -/
def execCbRes7C (s : State) : Result := clearBit 7 (.reg .c) s

/-- RES 7,D (0xCB 0xBA), R451. -/
def execCbRes7D (s : State) : Result := clearBit 7 (.reg .d) s

/-- RES 7,E (0xCB 0xBB), R451. -/
def execCbRes7E (s : State) : Result := clearBit 7 (.reg .e) s

/-- RES 7,H (0xCB 0xBC), R451. -/
def execCbRes7H (s : State) : Result := clearBit 7 (.reg .h) s

/-- RES 7,L (0xCB 0xBD), R451. -/
def execCbRes7L (s : State) : Result := clearBit 7 (.reg .l) s

/-- RES 7,(HL) (0xCB 0xBE), R451. -/
def execCbRes7IndHl (s : State) : Result := clearBit 7 .indHl s

/-- RES 7,A (0xCB 0xBF), R451. -/
def execCbRes7A (s : State) : Result := clearBit 7 (.reg .a) s

/-- SET 0,B (0xCB 0xC0), R452. -/
def execCbSet0B (s : State) : Result := raiseBit 0 (.reg .b) s

/-- SET 0,C (0xCB 0xC1), R452. -/
def execCbSet0C (s : State) : Result := raiseBit 0 (.reg .c) s

/-- SET 0,D (0xCB 0xC2), R452. -/
def execCbSet0D (s : State) : Result := raiseBit 0 (.reg .d) s

/-- SET 0,E (0xCB 0xC3), R452. -/
def execCbSet0E (s : State) : Result := raiseBit 0 (.reg .e) s

/-- SET 0,H (0xCB 0xC4), R452. -/
def execCbSet0H (s : State) : Result := raiseBit 0 (.reg .h) s

/-- SET 0,L (0xCB 0xC5), R452. -/
def execCbSet0L (s : State) : Result := raiseBit 0 (.reg .l) s

/-- SET 0,(HL) (0xCB 0xC6), R452. -/
def execCbSet0IndHl (s : State) : Result := raiseBit 0 .indHl s

/-- SET 0,A (0xCB 0xC7), R452. -/
def execCbSet0A (s : State) : Result := raiseBit 0 (.reg .a) s

/-- SET 1,B (0xCB 0xC8), R452. -/
def execCbSet1B (s : State) : Result := raiseBit 1 (.reg .b) s

/-- SET 1,C (0xCB 0xC9), R452. -/
def execCbSet1C (s : State) : Result := raiseBit 1 (.reg .c) s

/-- SET 1,D (0xCB 0xCA), R452. -/
def execCbSet1D (s : State) : Result := raiseBit 1 (.reg .d) s

/-- SET 1,E (0xCB 0xCB), R452. -/
def execCbSet1E (s : State) : Result := raiseBit 1 (.reg .e) s

/-- SET 1,H (0xCB 0xCC), R452. -/
def execCbSet1H (s : State) : Result := raiseBit 1 (.reg .h) s

/-- SET 1,L (0xCB 0xCD), R452. -/
def execCbSet1L (s : State) : Result := raiseBit 1 (.reg .l) s

/-- SET 1,(HL) (0xCB 0xCE), R452. -/
def execCbSet1IndHl (s : State) : Result := raiseBit 1 .indHl s

/-- SET 1,A (0xCB 0xCF), R452. -/
def execCbSet1A (s : State) : Result := raiseBit 1 (.reg .a) s

/-- SET 2,B (0xCB 0xD0), R452. -/
def execCbSet2B (s : State) : Result := raiseBit 2 (.reg .b) s

/-- SET 2,C (0xCB 0xD1), R452. -/
def execCbSet2C (s : State) : Result := raiseBit 2 (.reg .c) s

/-- SET 2,D (0xCB 0xD2), R452. -/
def execCbSet2D (s : State) : Result := raiseBit 2 (.reg .d) s

/-- SET 2,E (0xCB 0xD3), R452. -/
def execCbSet2E (s : State) : Result := raiseBit 2 (.reg .e) s

/-- SET 2,H (0xCB 0xD4), R452. -/
def execCbSet2H (s : State) : Result := raiseBit 2 (.reg .h) s

/-- SET 2,L (0xCB 0xD5), R452. -/
def execCbSet2L (s : State) : Result := raiseBit 2 (.reg .l) s

/-- SET 2,(HL) (0xCB 0xD6), R452. -/
def execCbSet2IndHl (s : State) : Result := raiseBit 2 .indHl s

/-- SET 2,A (0xCB 0xD7), R452. -/
def execCbSet2A (s : State) : Result := raiseBit 2 (.reg .a) s

/-- SET 3,B (0xCB 0xD8), R452. -/
def execCbSet3B (s : State) : Result := raiseBit 3 (.reg .b) s

/-- SET 3,C (0xCB 0xD9), R452. -/
def execCbSet3C (s : State) : Result := raiseBit 3 (.reg .c) s

/-- SET 3,D (0xCB 0xDA), R452. -/
def execCbSet3D (s : State) : Result := raiseBit 3 (.reg .d) s

/-- SET 3,E (0xCB 0xDB), R452. -/
def execCbSet3E (s : State) : Result := raiseBit 3 (.reg .e) s

/-- SET 3,H (0xCB 0xDC), R452. -/
def execCbSet3H (s : State) : Result := raiseBit 3 (.reg .h) s

/-- SET 3,L (0xCB 0xDD), R452. -/
def execCbSet3L (s : State) : Result := raiseBit 3 (.reg .l) s

/-- SET 3,(HL) (0xCB 0xDE), R452. -/
def execCbSet3IndHl (s : State) : Result := raiseBit 3 .indHl s

/-- SET 3,A (0xCB 0xDF), R452. -/
def execCbSet3A (s : State) : Result := raiseBit 3 (.reg .a) s

/-- SET 4,B (0xCB 0xE0), R452. -/
def execCbSet4B (s : State) : Result := raiseBit 4 (.reg .b) s

/-- SET 4,C (0xCB 0xE1), R452. -/
def execCbSet4C (s : State) : Result := raiseBit 4 (.reg .c) s

/-- SET 4,D (0xCB 0xE2), R452. -/
def execCbSet4D (s : State) : Result := raiseBit 4 (.reg .d) s

/-- SET 4,E (0xCB 0xE3), R452. -/
def execCbSet4E (s : State) : Result := raiseBit 4 (.reg .e) s

/-- SET 4,H (0xCB 0xE4), R452. -/
def execCbSet4H (s : State) : Result := raiseBit 4 (.reg .h) s

/-- SET 4,L (0xCB 0xE5), R452. -/
def execCbSet4L (s : State) : Result := raiseBit 4 (.reg .l) s

/-- SET 4,(HL) (0xCB 0xE6), R452. -/
def execCbSet4IndHl (s : State) : Result := raiseBit 4 .indHl s

/-- SET 4,A (0xCB 0xE7), R452. -/
def execCbSet4A (s : State) : Result := raiseBit 4 (.reg .a) s

/-- SET 5,B (0xCB 0xE8), R452. -/
def execCbSet5B (s : State) : Result := raiseBit 5 (.reg .b) s

/-- SET 5,C (0xCB 0xE9), R452. -/
def execCbSet5C (s : State) : Result := raiseBit 5 (.reg .c) s

/-- SET 5,D (0xCB 0xEA), R452. -/
def execCbSet5D (s : State) : Result := raiseBit 5 (.reg .d) s

/-- SET 5,E (0xCB 0xEB), R452. -/
def execCbSet5E (s : State) : Result := raiseBit 5 (.reg .e) s

/-- SET 5,H (0xCB 0xEC), R452. -/
def execCbSet5H (s : State) : Result := raiseBit 5 (.reg .h) s

/-- SET 5,L (0xCB 0xED), R452. -/
def execCbSet5L (s : State) : Result := raiseBit 5 (.reg .l) s

/-- SET 5,(HL) (0xCB 0xEE), R452. -/
def execCbSet5IndHl (s : State) : Result := raiseBit 5 .indHl s

/-- SET 5,A (0xCB 0xEF), R452. -/
def execCbSet5A (s : State) : Result := raiseBit 5 (.reg .a) s

/-- SET 6,B (0xCB 0xF0), R452. -/
def execCbSet6B (s : State) : Result := raiseBit 6 (.reg .b) s

/-- SET 6,C (0xCB 0xF1), R452. -/
def execCbSet6C (s : State) : Result := raiseBit 6 (.reg .c) s

/-- SET 6,D (0xCB 0xF2), R452. -/
def execCbSet6D (s : State) : Result := raiseBit 6 (.reg .d) s

/-- SET 6,E (0xCB 0xF3), R452. -/
def execCbSet6E (s : State) : Result := raiseBit 6 (.reg .e) s

/-- SET 6,H (0xCB 0xF4), R452. -/
def execCbSet6H (s : State) : Result := raiseBit 6 (.reg .h) s

/-- SET 6,L (0xCB 0xF5), R452. -/
def execCbSet6L (s : State) : Result := raiseBit 6 (.reg .l) s

/-- SET 6,(HL) (0xCB 0xF6), R452. -/
def execCbSet6IndHl (s : State) : Result := raiseBit 6 .indHl s

/-- SET 6,A (0xCB 0xF7), R452. -/
def execCbSet6A (s : State) : Result := raiseBit 6 (.reg .a) s

/-- SET 7,B (0xCB 0xF8), R452. -/
def execCbSet7B (s : State) : Result := raiseBit 7 (.reg .b) s

/-- SET 7,C (0xCB 0xF9), R452. -/
def execCbSet7C (s : State) : Result := raiseBit 7 (.reg .c) s

/-- SET 7,D (0xCB 0xFA), R452. -/
def execCbSet7D (s : State) : Result := raiseBit 7 (.reg .d) s

/-- SET 7,E (0xCB 0xFB), R452. -/
def execCbSet7E (s : State) : Result := raiseBit 7 (.reg .e) s

/-- SET 7,H (0xCB 0xFC), R452. -/
def execCbSet7H (s : State) : Result := raiseBit 7 (.reg .h) s

/-- SET 7,L (0xCB 0xFD), R452. -/
def execCbSet7L (s : State) : Result := raiseBit 7 (.reg .l) s

/-- SET 7,(HL) (0xCB 0xFE), R452. -/
def execCbSet7IndHl (s : State) : Result := raiseBit 7 .indHl s

/-- SET 7,A (0xCB 0xFF), R452. -/
def execCbSet7A (s : State) : Result := raiseBit 7 (.reg .a) s

end Sys2Proof.Machine
end

