-- ==== Sys2Proof/Machine/Control.lean ====
section
/-! DEFINITION. Control transfer (46_control.md R500 to R511). No flag is written. -/

namespace Sys2Proof.Machine

/-- The target of JR: the relative advance from the address after its two bytes (R40, R504). -/
def jumpTarget (s : State) (e : Byte) : Word := s.pc + 2 + sext16 e

/-- `JP cc,a16` (R502). -/
def jumpIf (cc : Cond) (addr : Word) (s : State) : Result :=
  if s.cond cc then finishAt addr 16 s else finish 3 12 s

/-- `JR cc,e8` (R505). -/
def jumpRelativeIf (cc : Cond) (e : Byte) (s : State) : Result :=
  if s.cond cc then finishAt (jumpTarget s e) 12 s else finish 2 8 s

/-- `CALL a16`: the pushed return address is pc0 + 3 (R506). -/
def call (addr : Word) (s : State) : Result := finishAt addr 24 (s.push16 (s.pc + 3))

/-- `CALL cc,a16` (R507). -/
def callIf (cc : Cond) (addr : Word) (s : State) : Result :=
  if s.cond cc then call addr s else finish 3 12 s

/-- `PC <- Pop16()` (R508, R509, R510). -/
def returnWith (cyc : Nat) (s : State) : Result := finishAt s.popValue cyc s.popped

/-- `RET cc` (R509). -/
def returnIf (cc : Cond) (s : State) : Result :=
  if s.cond cc then returnWith 20 s else finish 1 8 s

/-- `RST vec`: the pushed return address is pc0 + 1 (R511). -/
def restart (vec : Byte) (s : State) : Result := finishAt (zext16 vec) 16 (s.push16 (s.pc + 1))

/-- JR e8 (0x18), R504. -/
def execJrE8 (e : Byte) (s : State) : Result := finishAt (jumpTarget s e) 12 s

/-- JR NZ,e8 (0x20), R505. -/
def execJrNzE8 (e : Byte) (s : State) : Result := jumpRelativeIf .nz e s

/-- JR Z,e8 (0x28), R505. -/
def execJrZE8 (e : Byte) (s : State) : Result := jumpRelativeIf .z e s

/-- JR NC,e8 (0x30), R505. -/
def execJrNcE8 (e : Byte) (s : State) : Result := jumpRelativeIf .nc e s

/-- JR C,e8 (0x38), R505. -/
def execJrCE8 (e : Byte) (s : State) : Result := jumpRelativeIf .c e s

/-- RET NZ (0xC0), R509. -/
def execRetNz (s : State) : Result := returnIf .nz s

/-- JP NZ,a16 (0xC2), R502. -/
def execJpNzA16 (addr : Word) (s : State) : Result := jumpIf .nz addr s

/-- JP a16 (0xC3), R501. -/
def execJpA16 (addr : Word) (s : State) : Result := finishAt addr 16 s

/-- CALL NZ,a16 (0xC4), R507. -/
def execCallNzA16 (addr : Word) (s : State) : Result := callIf .nz addr s

/-- RST 00H (0xC7), R511. -/
def execRst00 (s : State) : Result := restart 0x00 s

/-- RET Z (0xC8), R509. -/
def execRetZ (s : State) : Result := returnIf .z s

/-- RET (0xC9), R508. -/
def execRet (s : State) : Result := returnWith 16 s

/-- JP Z,a16 (0xCA), R502. -/
def execJpZA16 (addr : Word) (s : State) : Result := jumpIf .z addr s

/-- CALL Z,a16 (0xCC), R507. -/
def execCallZA16 (addr : Word) (s : State) : Result := callIf .z addr s

/-- CALL a16 (0xCD), R506. -/
def execCallA16 (addr : Word) (s : State) : Result := call addr s

/-- RST 08H (0xCF), R511. -/
def execRst08 (s : State) : Result := restart 0x08 s

/-- RET NC (0xD0), R509. -/
def execRetNc (s : State) : Result := returnIf .nc s

/-- JP NC,a16 (0xD2), R502. -/
def execJpNcA16 (addr : Word) (s : State) : Result := jumpIf .nc addr s

/-- CALL NC,a16 (0xD4), R507. -/
def execCallNcA16 (addr : Word) (s : State) : Result := callIf .nc addr s

/-- RST 10H (0xD7), R511. -/
def execRst10 (s : State) : Result := restart 0x10 s

/-- RET C (0xD8), R509. -/
def execRetC (s : State) : Result := returnIf .c s

/-- RETI (0xD9), R510: ime is set at once. -/
def execReti (s : State) : Result := returnWith 16 { s with ime := true }

/-- JP C,a16 (0xDA), R502. -/
def execJpCA16 (addr : Word) (s : State) : Result := jumpIf .c addr s

/-- CALL C,a16 (0xDC), R507. -/
def execCallCA16 (addr : Word) (s : State) : Result := callIf .c addr s

/-- RST 18H (0xDF), R511. -/
def execRst18 (s : State) : Result := restart 0x18 s

/-- RST 20H (0xE7), R511. -/
def execRst20 (s : State) : Result := restart 0x20 s

/-- JP HL (0xE9), R503. -/
def execJpHl (s : State) : Result := finishAt s.hl 4 s

/-- RST 28H (0xEF), R511. -/
def execRst28 (s : State) : Result := restart 0x28 s

/-- RST 30H (0xF7), R511. -/
def execRst30 (s : State) : Result := restart 0x30 s

/-- RST 38H (0xFF), R511. -/
def execRst38 (s : State) : Result := restart 0x38 s

end Sys2Proof.Machine
end

