-- ==== Sys2Proof/Machine/DataMove.lean ====
section
/-! DEFINITION. 8-bit and 16-bit data moves (40_data_move.md R200 to R222). No flag is written. -/

namespace Sys2Proof.Machine

/-- `r[y] <- r[z]` (R201). -/
def loadReg (dst src : Reg8) (s : State) : Result := finish 1 4 (s.setReg dst (s.reg src))

/-- A register takes the byte at an address (R202, R206, R207, R210, R212, R214). -/
def loadFrom (dst : Reg8) (addr : Word) (len cyc : Nat) (s : State) : Result :=
  finish len cyc (s.setReg dst (s.readByte addr))

/-- A byte is stored at an address (R203, R205, R208, R209, R211, R213, R215). -/
def storeTo (addr : Word) (v : Byte) (len cyc : Nat) (s : State) : Result :=
  finish len cyc (s.writeByte addr v)

/-- LD BC,n16 (0x01), R220. -/
def execLdBcN16 (n : Word) (s : State) : Result := finish 3 12 (s.setPair .bc n)

/-- LD (BC),A (0x02), R208. -/
def execLdIndBcA (s : State) : Result := storeTo s.bc s.a 1 8 s

/-- LD B,n8 (0x06), R204. -/
def execLdBN8 (n : Byte) (s : State) : Result := finish 2 8 (s.setReg .b n)

/-- LD (a16),SP (0x08), R221. -/
def execLdIndA16Sp (addr : Word) (s : State) : Result := finish 3 20 (s.writeWord addr s.sp)

/-- LD A,(BC) (0x0A), R206. -/
def execLdAIndBc (s : State) : Result := loadFrom .a s.bc 1 8 s

/-- LD C,n8 (0x0E), R204. -/
def execLdCN8 (n : Byte) (s : State) : Result := finish 2 8 (s.setReg .c n)

/-- LD DE,n16 (0x11), R220. -/
def execLdDeN16 (n : Word) (s : State) : Result := finish 3 12 (s.setPair .de n)

/-- LD (DE),A (0x12), R209. -/
def execLdIndDeA (s : State) : Result := storeTo s.de s.a 1 8 s

/-- LD D,n8 (0x16), R204. -/
def execLdDN8 (n : Byte) (s : State) : Result := finish 2 8 (s.setReg .d n)

/-- LD A,(DE) (0x1A), R207. -/
def execLdAIndDe (s : State) : Result := loadFrom .a s.de 1 8 s

/-- LD E,n8 (0x1E), R204. -/
def execLdEN8 (n : Byte) (s : State) : Result := finish 2 8 (s.setReg .e n)

/-- LD HL,n16 (0x21), R220. -/
def execLdHlN16 (n : Word) (s : State) : Result := finish 3 12 (s.setPair .hl n)

/-- LD (HL+),A (0x22), R216. -/
def execLdIndHlIncA (s : State) : Result := finish 1 8 ((s.writeByte s.hl s.a).setHl (s.hl + 1))

/-- LD H,n8 (0x26), R204. -/
def execLdHN8 (n : Byte) (s : State) : Result := finish 2 8 (s.setReg .h n)

/-- LD A,(HL+) (0x2A), R218. -/
def execLdAIndHlInc (s : State) : Result := finish 1 8 ((s.setReg .a (s.readByte s.hl)).setHl (s.hl + 1))

/-- LD L,n8 (0x2E), R204. -/
def execLdLN8 (n : Byte) (s : State) : Result := finish 2 8 (s.setReg .l n)

/-- LD SP,n16 (0x31), R220. -/
def execLdSpN16 (n : Word) (s : State) : Result := finish 3 12 (s.setPair .sp n)

/-- LD (HL-),A (0x32), R217. -/
def execLdIndHlDecA (s : State) : Result := finish 1 8 ((s.writeByte s.hl s.a).setHl (s.hl - 1))

/-- LD (HL),n8 (0x36), R205. -/
def execLdIndHlN8 (n : Byte) (s : State) : Result := storeTo s.hl n 2 12 s

/-- LD A,(HL-) (0x3A), R219. -/
def execLdAIndHlDec (s : State) : Result := finish 1 8 ((s.setReg .a (s.readByte s.hl)).setHl (s.hl - 1))

/-- LD A,n8 (0x3E), R204. -/
def execLdAN8 (n : Byte) (s : State) : Result := finish 2 8 (s.setReg .a n)

/-- LD B,B (0x40), R201. -/
def execLdBB (s : State) : Result := loadReg .b .b s

/-- LD B,C (0x41), R201. -/
def execLdBC (s : State) : Result := loadReg .b .c s

/-- LD B,D (0x42), R201. -/
def execLdBD (s : State) : Result := loadReg .b .d s

/-- LD B,E (0x43), R201. -/
def execLdBE (s : State) : Result := loadReg .b .e s

/-- LD B,H (0x44), R201. -/
def execLdBH (s : State) : Result := loadReg .b .h s

/-- LD B,L (0x45), R201. -/
def execLdBL (s : State) : Result := loadReg .b .l s

/-- LD B,(HL) (0x46), R202. -/
def execLdBIndHl (s : State) : Result := loadFrom .b s.hl 1 8 s

/-- LD B,A (0x47), R201. -/
def execLdBA (s : State) : Result := loadReg .b .a s

/-- LD C,B (0x48), R201. -/
def execLdCB (s : State) : Result := loadReg .c .b s

/-- LD C,C (0x49), R201. -/
def execLdCC (s : State) : Result := loadReg .c .c s

/-- LD C,D (0x4A), R201. -/
def execLdCD (s : State) : Result := loadReg .c .d s

/-- LD C,E (0x4B), R201. -/
def execLdCE (s : State) : Result := loadReg .c .e s

/-- LD C,H (0x4C), R201. -/
def execLdCH (s : State) : Result := loadReg .c .h s

/-- LD C,L (0x4D), R201. -/
def execLdCL (s : State) : Result := loadReg .c .l s

/-- LD C,(HL) (0x4E), R202. -/
def execLdCIndHl (s : State) : Result := loadFrom .c s.hl 1 8 s

/-- LD C,A (0x4F), R201. -/
def execLdCA (s : State) : Result := loadReg .c .a s

/-- LD D,B (0x50), R201. -/
def execLdDB (s : State) : Result := loadReg .d .b s

/-- LD D,C (0x51), R201. -/
def execLdDC (s : State) : Result := loadReg .d .c s

/-- LD D,D (0x52), R201. -/
def execLdDD (s : State) : Result := loadReg .d .d s

/-- LD D,E (0x53), R201. -/
def execLdDE (s : State) : Result := loadReg .d .e s

/-- LD D,H (0x54), R201. -/
def execLdDH (s : State) : Result := loadReg .d .h s

/-- LD D,L (0x55), R201. -/
def execLdDL (s : State) : Result := loadReg .d .l s

/-- LD D,(HL) (0x56), R202. -/
def execLdDIndHl (s : State) : Result := loadFrom .d s.hl 1 8 s

/-- LD D,A (0x57), R201. -/
def execLdDA (s : State) : Result := loadReg .d .a s

/-- LD E,B (0x58), R201. -/
def execLdEB (s : State) : Result := loadReg .e .b s

/-- LD E,C (0x59), R201. -/
def execLdEC (s : State) : Result := loadReg .e .c s

/-- LD E,D (0x5A), R201. -/
def execLdED (s : State) : Result := loadReg .e .d s

/-- LD E,E (0x5B), R201. -/
def execLdEE (s : State) : Result := loadReg .e .e s

/-- LD E,H (0x5C), R201. -/
def execLdEH (s : State) : Result := loadReg .e .h s

/-- LD E,L (0x5D), R201. -/
def execLdEL (s : State) : Result := loadReg .e .l s

/-- LD E,(HL) (0x5E), R202. -/
def execLdEIndHl (s : State) : Result := loadFrom .e s.hl 1 8 s

/-- LD E,A (0x5F), R201. -/
def execLdEA (s : State) : Result := loadReg .e .a s

/-- LD H,B (0x60), R201. -/
def execLdHB (s : State) : Result := loadReg .h .b s

/-- LD H,C (0x61), R201. -/
def execLdHC (s : State) : Result := loadReg .h .c s

/-- LD H,D (0x62), R201. -/
def execLdHD (s : State) : Result := loadReg .h .d s

/-- LD H,E (0x63), R201. -/
def execLdHE (s : State) : Result := loadReg .h .e s

/-- LD H,H (0x64), R201. -/
def execLdHH (s : State) : Result := loadReg .h .h s

/-- LD H,L (0x65), R201. -/
def execLdHL (s : State) : Result := loadReg .h .l s

/-- LD H,(HL) (0x66), R202. -/
def execLdHIndHl (s : State) : Result := loadFrom .h s.hl 1 8 s

/-- LD H,A (0x67), R201. -/
def execLdHA (s : State) : Result := loadReg .h .a s

/-- LD L,B (0x68), R201. -/
def execLdLB (s : State) : Result := loadReg .l .b s

/-- LD L,C (0x69), R201. -/
def execLdLC (s : State) : Result := loadReg .l .c s

/-- LD L,D (0x6A), R201. -/
def execLdLD (s : State) : Result := loadReg .l .d s

/-- LD L,E (0x6B), R201. -/
def execLdLE (s : State) : Result := loadReg .l .e s

/-- LD L,H (0x6C), R201. -/
def execLdLH (s : State) : Result := loadReg .l .h s

/-- LD L,L (0x6D), R201. -/
def execLdLL (s : State) : Result := loadReg .l .l s

/-- LD L,(HL) (0x6E), R202. -/
def execLdLIndHl (s : State) : Result := loadFrom .l s.hl 1 8 s

/-- LD L,A (0x6F), R201. -/
def execLdLA (s : State) : Result := loadReg .l .a s

/-- LD (HL),B (0x70), R203. -/
def execLdIndHlB (s : State) : Result := storeTo s.hl s.b 1 8 s

/-- LD (HL),C (0x71), R203. -/
def execLdIndHlC (s : State) : Result := storeTo s.hl s.c 1 8 s

/-- LD (HL),D (0x72), R203. -/
def execLdIndHlD (s : State) : Result := storeTo s.hl s.d 1 8 s

/-- LD (HL),E (0x73), R203. -/
def execLdIndHlE (s : State) : Result := storeTo s.hl s.e 1 8 s

/-- LD (HL),H (0x74), R203. -/
def execLdIndHlH (s : State) : Result := storeTo s.hl s.h 1 8 s

/-- LD (HL),L (0x75), R203. -/
def execLdIndHlL (s : State) : Result := storeTo s.hl s.l 1 8 s

/-- LD (HL),A (0x77), R203. -/
def execLdIndHlA (s : State) : Result := storeTo s.hl s.a 1 8 s

/-- LD A,B (0x78), R201. -/
def execLdAB (s : State) : Result := loadReg .a .b s

/-- LD A,C (0x79), R201. -/
def execLdAC (s : State) : Result := loadReg .a .c s

/-- LD A,D (0x7A), R201. -/
def execLdAD (s : State) : Result := loadReg .a .d s

/-- LD A,E (0x7B), R201. -/
def execLdAE (s : State) : Result := loadReg .a .e s

/-- LD A,H (0x7C), R201. -/
def execLdAH (s : State) : Result := loadReg .a .h s

/-- LD A,L (0x7D), R201. -/
def execLdAL (s : State) : Result := loadReg .a .l s

/-- LD A,(HL) (0x7E), R202. -/
def execLdAIndHl (s : State) : Result := loadFrom .a s.hl 1 8 s

/-- LD A,A (0x7F), R201. -/
def execLdAA (s : State) : Result := loadReg .a .a s

/-- LDH (a8),A (0xE0), R213. -/
def execLdhIndA8A (n : Byte) (s : State) : Result := storeTo (highPage n) s.a 2 12 s

/-- LD (C),A (0xE2), R215. -/
def execLdIndCA (s : State) : Result := storeTo (highPage s.c) s.a 1 8 s

/-- LD (a16),A (0xEA), R211. -/
def execLdIndA16A (addr : Word) (s : State) : Result := storeTo addr s.a 3 16 s

/-- LDH A,(a8) (0xF0), R212. -/
def execLdhAIndA8 (n : Byte) (s : State) : Result := loadFrom .a (highPage n) 2 12 s

/-- LD A,(C) (0xF2), R214. -/
def execLdAIndC (s : State) : Result := loadFrom .a (highPage s.c) 1 8 s

/-- LD SP,HL (0xF9), R222. -/
def execLdSpHl (s : State) : Result := finish 1 8 { s with sp := s.hl }

/-- LD A,(a16) (0xFA), R210. -/
def execLdAIndA16 (addr : Word) (s : State) : Result := loadFrom .a addr 3 16 s

end Sys2Proof.Machine
end

