-- ==== Sys2Proof/Machine/IncDec.lean ====
section
/-! DEFINITION. Increment and decrement (42_inc_dec.md R300 to R305). -/

namespace Sys2Proof.Machine

/-- `INC r` and `INC (HL)`: Z, N and Hf are written, Cy is not (R300, R301). -/
def increment (o : Operand8) (cyc : Nat) (s : State) : Result :=
  let v := s.operand o
  let res := v + 1
  finish 1 cyc ((s.setOperand o res).setZnh (res == 0) false (incHalf v))

/-- `DEC r` and `DEC (HL)` (R302, R303). -/
def decrement (o : Operand8) (cyc : Nat) (s : State) : Result :=
  let v := s.operand o
  let res := v - 1
  finish 1 cyc ((s.setOperand o res).setZnh (res == 0) true (decHalf v))

/-- INC BC (0x03), R304. -/
def execIncBc (s : State) : Result := finish 1 8 (s.setPair .bc (s.bc + 1))

/-- INC B (0x04), R300. -/
def execIncB (s : State) : Result := increment (.reg .b) 4 s

/-- DEC B (0x05), R302. -/
def execDecB (s : State) : Result := decrement (.reg .b) 4 s

/-- DEC BC (0x0B), R305. -/
def execDecBc (s : State) : Result := finish 1 8 (s.setPair .bc (s.bc - 1))

/-- INC C (0x0C), R300. -/
def execIncC (s : State) : Result := increment (.reg .c) 4 s

/-- DEC C (0x0D), R302. -/
def execDecC (s : State) : Result := decrement (.reg .c) 4 s

/-- INC DE (0x13), R304. -/
def execIncDe (s : State) : Result := finish 1 8 (s.setPair .de (s.de + 1))

/-- INC D (0x14), R300. -/
def execIncD (s : State) : Result := increment (.reg .d) 4 s

/-- DEC D (0x15), R302. -/
def execDecD (s : State) : Result := decrement (.reg .d) 4 s

/-- DEC DE (0x1B), R305. -/
def execDecDe (s : State) : Result := finish 1 8 (s.setPair .de (s.de - 1))

/-- INC E (0x1C), R300. -/
def execIncE (s : State) : Result := increment (.reg .e) 4 s

/-- DEC E (0x1D), R302. -/
def execDecE (s : State) : Result := decrement (.reg .e) 4 s

/-- INC HL (0x23), R304. -/
def execIncHl (s : State) : Result := finish 1 8 (s.setPair .hl (s.hl + 1))

/-- INC H (0x24), R300. -/
def execIncH (s : State) : Result := increment (.reg .h) 4 s

/-- DEC H (0x25), R302. -/
def execDecH (s : State) : Result := decrement (.reg .h) 4 s

/-- DEC HL (0x2B), R305. -/
def execDecHl (s : State) : Result := finish 1 8 (s.setPair .hl (s.hl - 1))

/-- INC L (0x2C), R300. -/
def execIncL (s : State) : Result := increment (.reg .l) 4 s

/-- DEC L (0x2D), R302. -/
def execDecL (s : State) : Result := decrement (.reg .l) 4 s

/-- INC SP (0x33), R304. -/
def execIncSp (s : State) : Result := finish 1 8 (s.setPair .sp (s.sp + 1))

/-- INC (HL) (0x34), R301. -/
def execIncIndHl (s : State) : Result := increment .indHl 12 s

/-- DEC (HL) (0x35), R303. -/
def execDecIndHl (s : State) : Result := decrement .indHl 12 s

/-- DEC SP (0x3B), R305. -/
def execDecSp (s : State) : Result := finish 1 8 (s.setPair .sp (s.sp - 1))

/-- INC A (0x3C), R300. -/
def execIncA (s : State) : Result := increment (.reg .a) 4 s

/-- DEC A (0x3D), R302. -/
def execDecA (s : State) : Result := decrement (.reg .a) 4 s

end Sys2Proof.Machine
end

