-- ==== Sys2Proof/Machine/Misc.lean ====
section
/-! DEFINITION. Miscellaneous instructions (47_misc.md R550 to R558). -/

namespace Sys2Proof.Machine

/-- `DAA`: Z, Hf and Cy are written, N is not (R551). -/
def decimalAdjust (s : State) : Result :=
  let r := daa s.a (s.flag .n) (s.flag .h) (s.flag .c)
  finish 1 4 { s with a := r.1, f := putFlag (putFlag (putFlag s.f .z (r.1 == 0)) .h false) .c r.2 }

/-- NOP (0x00), R550. -/
def execNop (s : State) : Result := finish 1 4 s

/-- STOP (0x10), R556: the second byte is ignored. -/
def execStop (_ignored : Byte) (s : State) : Result := finish 2 4 { s with runState := .stopped }

/-- DAA (0x27), R551. -/
def execDaa (s : State) : Result := decimalAdjust s

/-- CPL (0x2F), R552. -/
def execCpl (s : State) : Result := finish 1 4 { s with a := ~~~s.a, f := putFlag (putFlag s.f .n true) .h true }

/-- SCF (0x37), R553. -/
def execScf (s : State) : Result := finish 1 4 (s.setNhc false false true)

/-- CCF (0x3F), R554. -/
def execCcf (s : State) : Result := finish 1 4 (s.setNhc false false (!s.flag .c))

/-- HALT (0x76), R555: every later step is idle (R148). -/
def execHalt (s : State) : Result := finish 1 4 { s with runState := .halted }

/-- DI (0xF3), R557. -/
def execDi (s : State) : Result := finish 1 4 { s with ime := false, imePending := false }

/-- EI (0xFB), R558: ime follows at the end of the next step (R152). -/
def execEi (s : State) : Result := finish 1 4 { s with imePending := true }

end Sys2Proof.Machine
end

