-- ==== Sys2Proof/Machine/RotateShift.lean ====
section
/-! DEFINITION. Rotates and shifts (44_rotate_shift.md R400 to R412). -/

namespace Sys2Proof.Machine

/-- The accumulator rotates: Z is cleared whatever the result (R400 to R403). -/
def rotateA (op : RotOp) (s : State) : Result :=
  let r := rotate op s.a (s.flag .c)
  finish 1 4 ({ s with a := r.1 }.setZnhc false false false r.2)

/-- The prefixed rotates, shifts and SWAP: Z is set from the result (R404 to R412). -/
def rotateOperand (op : RotOp) (o : Operand8) (s : State) : Result :=
  let r := rotate op (s.operand o) (s.flag .c)
  finish 2 (rmwCycles o) ((s.setOperand o r.1).setZnhc (r.1 == 0) false false r.2)

/-- RLCA (0x07), R400. -/
def execRlca (s : State) : Result := rotateA .rlc s

/-- RRCA (0x0F), R401. -/
def execRrca (s : State) : Result := rotateA .rrc s

/-- RLA (0x17), R402. -/
def execRla (s : State) : Result := rotateA .rl s

/-- RRA (0x1F), R403. -/
def execRra (s : State) : Result := rotateA .rr s

/-- RLC B (0xCB 0x00), R405. -/
def execCbRlcB (s : State) : Result := rotateOperand .rlc (.reg .b) s

/-- RLC C (0xCB 0x01), R405. -/
def execCbRlcC (s : State) : Result := rotateOperand .rlc (.reg .c) s

/-- RLC D (0xCB 0x02), R405. -/
def execCbRlcD (s : State) : Result := rotateOperand .rlc (.reg .d) s

/-- RLC E (0xCB 0x03), R405. -/
def execCbRlcE (s : State) : Result := rotateOperand .rlc (.reg .e) s

/-- RLC H (0xCB 0x04), R405. -/
def execCbRlcH (s : State) : Result := rotateOperand .rlc (.reg .h) s

/-- RLC L (0xCB 0x05), R405. -/
def execCbRlcL (s : State) : Result := rotateOperand .rlc (.reg .l) s

/-- RLC (HL) (0xCB 0x06), R405. -/
def execCbRlcIndHl (s : State) : Result := rotateOperand .rlc .indHl s

/-- RLC A (0xCB 0x07), R405. -/
def execCbRlcA (s : State) : Result := rotateOperand .rlc (.reg .a) s

/-- RRC B (0xCB 0x08), R406. -/
def execCbRrcB (s : State) : Result := rotateOperand .rrc (.reg .b) s

/-- RRC C (0xCB 0x09), R406. -/
def execCbRrcC (s : State) : Result := rotateOperand .rrc (.reg .c) s

/-- RRC D (0xCB 0x0A), R406. -/
def execCbRrcD (s : State) : Result := rotateOperand .rrc (.reg .d) s

/-- RRC E (0xCB 0x0B), R406. -/
def execCbRrcE (s : State) : Result := rotateOperand .rrc (.reg .e) s

/-- RRC H (0xCB 0x0C), R406. -/
def execCbRrcH (s : State) : Result := rotateOperand .rrc (.reg .h) s

/-- RRC L (0xCB 0x0D), R406. -/
def execCbRrcL (s : State) : Result := rotateOperand .rrc (.reg .l) s

/-- RRC (HL) (0xCB 0x0E), R406. -/
def execCbRrcIndHl (s : State) : Result := rotateOperand .rrc .indHl s

/-- RRC A (0xCB 0x0F), R406. -/
def execCbRrcA (s : State) : Result := rotateOperand .rrc (.reg .a) s

/-- RL B (0xCB 0x10), R407. -/
def execCbRlB (s : State) : Result := rotateOperand .rl (.reg .b) s

/-- RL C (0xCB 0x11), R407. -/
def execCbRlC (s : State) : Result := rotateOperand .rl (.reg .c) s

/-- RL D (0xCB 0x12), R407. -/
def execCbRlD (s : State) : Result := rotateOperand .rl (.reg .d) s

/-- RL E (0xCB 0x13), R407. -/
def execCbRlE (s : State) : Result := rotateOperand .rl (.reg .e) s

/-- RL H (0xCB 0x14), R407. -/
def execCbRlH (s : State) : Result := rotateOperand .rl (.reg .h) s

/-- RL L (0xCB 0x15), R407. -/
def execCbRlL (s : State) : Result := rotateOperand .rl (.reg .l) s

/-- RL (HL) (0xCB 0x16), R407. -/
def execCbRlIndHl (s : State) : Result := rotateOperand .rl .indHl s

/-- RL A (0xCB 0x17), R407. -/
def execCbRlA (s : State) : Result := rotateOperand .rl (.reg .a) s

/-- RR B (0xCB 0x18), R408. -/
def execCbRrB (s : State) : Result := rotateOperand .rr (.reg .b) s

/-- RR C (0xCB 0x19), R408. -/
def execCbRrC (s : State) : Result := rotateOperand .rr (.reg .c) s

/-- RR D (0xCB 0x1A), R408. -/
def execCbRrD (s : State) : Result := rotateOperand .rr (.reg .d) s

/-- RR E (0xCB 0x1B), R408. -/
def execCbRrE (s : State) : Result := rotateOperand .rr (.reg .e) s

/-- RR H (0xCB 0x1C), R408. -/
def execCbRrH (s : State) : Result := rotateOperand .rr (.reg .h) s

/-- RR L (0xCB 0x1D), R408. -/
def execCbRrL (s : State) : Result := rotateOperand .rr (.reg .l) s

/-- RR (HL) (0xCB 0x1E), R408. -/
def execCbRrIndHl (s : State) : Result := rotateOperand .rr .indHl s

/-- RR A (0xCB 0x1F), R408. -/
def execCbRrA (s : State) : Result := rotateOperand .rr (.reg .a) s

/-- SLA B (0xCB 0x20), R409. -/
def execCbSlaB (s : State) : Result := rotateOperand .sla (.reg .b) s

/-- SLA C (0xCB 0x21), R409. -/
def execCbSlaC (s : State) : Result := rotateOperand .sla (.reg .c) s

/-- SLA D (0xCB 0x22), R409. -/
def execCbSlaD (s : State) : Result := rotateOperand .sla (.reg .d) s

/-- SLA E (0xCB 0x23), R409. -/
def execCbSlaE (s : State) : Result := rotateOperand .sla (.reg .e) s

/-- SLA H (0xCB 0x24), R409. -/
def execCbSlaH (s : State) : Result := rotateOperand .sla (.reg .h) s

/-- SLA L (0xCB 0x25), R409. -/
def execCbSlaL (s : State) : Result := rotateOperand .sla (.reg .l) s

/-- SLA (HL) (0xCB 0x26), R409. -/
def execCbSlaIndHl (s : State) : Result := rotateOperand .sla .indHl s

/-- SLA A (0xCB 0x27), R409. -/
def execCbSlaA (s : State) : Result := rotateOperand .sla (.reg .a) s

/-- SRA B (0xCB 0x28), R410. -/
def execCbSraB (s : State) : Result := rotateOperand .sra (.reg .b) s

/-- SRA C (0xCB 0x29), R410. -/
def execCbSraC (s : State) : Result := rotateOperand .sra (.reg .c) s

/-- SRA D (0xCB 0x2A), R410. -/
def execCbSraD (s : State) : Result := rotateOperand .sra (.reg .d) s

/-- SRA E (0xCB 0x2B), R410. -/
def execCbSraE (s : State) : Result := rotateOperand .sra (.reg .e) s

/-- SRA H (0xCB 0x2C), R410. -/
def execCbSraH (s : State) : Result := rotateOperand .sra (.reg .h) s

/-- SRA L (0xCB 0x2D), R410. -/
def execCbSraL (s : State) : Result := rotateOperand .sra (.reg .l) s

/-- SRA (HL) (0xCB 0x2E), R410. -/
def execCbSraIndHl (s : State) : Result := rotateOperand .sra .indHl s

/-- SRA A (0xCB 0x2F), R410. -/
def execCbSraA (s : State) : Result := rotateOperand .sra (.reg .a) s

/-- SWAP B (0xCB 0x30), R411. -/
def execCbSwapB (s : State) : Result := rotateOperand .swap (.reg .b) s

/-- SWAP C (0xCB 0x31), R411. -/
def execCbSwapC (s : State) : Result := rotateOperand .swap (.reg .c) s

/-- SWAP D (0xCB 0x32), R411. -/
def execCbSwapD (s : State) : Result := rotateOperand .swap (.reg .d) s

/-- SWAP E (0xCB 0x33), R411. -/
def execCbSwapE (s : State) : Result := rotateOperand .swap (.reg .e) s

/-- SWAP H (0xCB 0x34), R411. -/
def execCbSwapH (s : State) : Result := rotateOperand .swap (.reg .h) s

/-- SWAP L (0xCB 0x35), R411. -/
def execCbSwapL (s : State) : Result := rotateOperand .swap (.reg .l) s

/-- SWAP (HL) (0xCB 0x36), R411. -/
def execCbSwapIndHl (s : State) : Result := rotateOperand .swap .indHl s

/-- SWAP A (0xCB 0x37), R411. -/
def execCbSwapA (s : State) : Result := rotateOperand .swap (.reg .a) s

/-- SRL B (0xCB 0x38), R412. -/
def execCbSrlB (s : State) : Result := rotateOperand .srl (.reg .b) s

/-- SRL C (0xCB 0x39), R412. -/
def execCbSrlC (s : State) : Result := rotateOperand .srl (.reg .c) s

/-- SRL D (0xCB 0x3A), R412. -/
def execCbSrlD (s : State) : Result := rotateOperand .srl (.reg .d) s

/-- SRL E (0xCB 0x3B), R412. -/
def execCbSrlE (s : State) : Result := rotateOperand .srl (.reg .e) s

/-- SRL H (0xCB 0x3C), R412. -/
def execCbSrlH (s : State) : Result := rotateOperand .srl (.reg .h) s

/-- SRL L (0xCB 0x3D), R412. -/
def execCbSrlL (s : State) : Result := rotateOperand .srl (.reg .l) s

/-- SRL (HL) (0xCB 0x3E), R412. -/
def execCbSrlIndHl (s : State) : Result := rotateOperand .srl .indHl s

/-- SRL A (0xCB 0x3F), R412. -/
def execCbSrlA (s : State) : Result := rotateOperand .srl (.reg .a) s

end Sys2Proof.Machine
end

