-- ==== Sys2Proof/Machine/PrefixMarker.lean ====
section
/-! DEFINITION. The prefix marker, slot 0xCB (30_encoding.md R126, R142). -/

namespace Sys2Proof.Machine

/-- Read as a prefix, 0xCB selects slot 256 + the second byte (R142): the routine of that slot, by the fields of the byte (R113, R124). -/
def runPrefixed (op2 : Byte) (s : State) : Result :=
  let o := operandOf (fieldZ op2)
  match fieldX op2 with
  | 0 => rotateOperand (rotOf (fieldY op2)) o s
  | 1 => testBit (bitOf (fieldY op2)) o s
  | 2 => clearBit (bitOf (fieldY op2)) o s
  | _ => raiseBit (bitOf (fieldY op2)) o s

/-- PREFIX (0xCB), R126. The decoder never gives this slot, since 0xCB selects a prefixed one (R126): DEDUCED (log 5), its meaning is what phase 1 makes of the byte. -/
def execPrefixCb (s : State) : Result := runPrefixed (s.readByte (s.pc + 1)) s

end Sys2Proof.Machine
end

