-- ==== Sys2Proof/Machine/Stack.lean ====
section
/-! DEFINITION. Stack moves (41_stack.md R252 to R254). -/

namespace Sys2Proof.Machine

/-- `Push16(qq[p])` (R252). -/
def push (q : StackPair) (s : State) : Result := finish 1 16 (s.push16 (s.stackPair q))

/-- `qq[p] <- Pop16()` (R253, R254). -/
def pop (q : StackPair) (s : State) : Result := finish 1 12 (s.popped.setStackPair q s.popValue)

/-- POP BC (0xC1), R253. -/
def execPopBc (s : State) : Result := pop .bc s

/-- PUSH BC (0xC5), R252. -/
def execPushBc (s : State) : Result := push .bc s

/-- POP DE (0xD1), R253. -/
def execPopDe (s : State) : Result := pop .de s

/-- PUSH DE (0xD5), R252. -/
def execPushDe (s : State) : Result := push .de s

/-- POP HL (0xE1), R253. -/
def execPopHl (s : State) : Result := pop .hl s

/-- PUSH HL (0xE5), R252. -/
def execPushHl (s : State) : Result := push .hl s

/-- POP AF (0xF1), R254: all four flags are loaded, F[3:0] is forced to zero. -/
def execPopAf (s : State) : Result := pop .af s

/-- PUSH AF (0xF5), R252. -/
def execPushAf (s : State) : Result := push .af s

end Sys2Proof.Machine
end

