-- ==== Sys2Proof/Machine/Unimplemented.lean ====
section
/-! DEFINITION. The eleven unimplemented slots (47_misc.md R559): each takes the fatal outcome R600. -/

namespace Sys2Proof.Machine

/-- UNIMPLEMENTED_D3 (0xD3), R559. -/
def execUnimplementedD3 (s : State) : Result := raiseFatal 0xD3 s

/-- UNIMPLEMENTED_DB (0xDB), R559. -/
def execUnimplementedDB (s : State) : Result := raiseFatal 0xDB s

/-- UNIMPLEMENTED_DD (0xDD), R559. -/
def execUnimplementedDD (s : State) : Result := raiseFatal 0xDD s

/-- UNIMPLEMENTED_E3 (0xE3), R559. -/
def execUnimplementedE3 (s : State) : Result := raiseFatal 0xE3 s

/-- UNIMPLEMENTED_E4 (0xE4), R559. -/
def execUnimplementedE4 (s : State) : Result := raiseFatal 0xE4 s

/-- UNIMPLEMENTED_EB (0xEB), R559. -/
def execUnimplementedEB (s : State) : Result := raiseFatal 0xEB s

/-- UNIMPLEMENTED_EC (0xEC), R559. -/
def execUnimplementedEC (s : State) : Result := raiseFatal 0xEC s

/-- UNIMPLEMENTED_ED (0xED), R559. -/
def execUnimplementedED (s : State) : Result := raiseFatal 0xED s

/-- UNIMPLEMENTED_F4 (0xF4), R559. -/
def execUnimplementedF4 (s : State) : Result := raiseFatal 0xF4 s

/-- UNIMPLEMENTED_FC (0xFC), R559. -/
def execUnimplementedFC (s : State) : Result := raiseFatal 0xFC s

/-- UNIMPLEMENTED_FD (0xFD), R559. -/
def execUnimplementedFD (s : State) : Result := raiseFatal 0xFD s

end Sys2Proof.Machine
end

