-- ==== Sys2Proof/Machine/Step.lean ====
section
/-! DEFINITION. One fetch-decode-execute step (30_encoding.md R140) and the host's way to place an instruction. -/

namespace Sys2Proof.Machine

/-- `Step()` (R140): in FATAL no step exists (R149), in HALTED and STOPPED it is idle (R148), in RUNNING the instruction at PC runs and a pending EI is promoted at its end (R152). -/
def step (s : State) : Host.Outcome State Fault Refusal :=
  match s.runState with
  | .fatal => .fault s.fatalFault
  | .halted => .next s.idle
  | .stopped => .next s.idle
  | .running => endStep s.imePending (exec s.fetchInstr s)

/-- What `Step()` reports to the host: `Ok(n)` or `Fatal(op, addr)` (R16; log 10). -/
def stepResult (s : State) : Option StepResult := reportOf s (step s)

/-- The instruction of a table word placed where the next fetch finds it, in a machine that runs (log 8). -/
def State.withFetchWord (s : State) (nbits w : Nat) : State := s.placeAtPc (tableBytes nbits w)

end Sys2Proof.Machine
end

