-- ==== Sys2Proof/Safety.lean ====
section
/-! DEFINITION. What counts as a sound state and a safe step, in the terms the claims use. -/

namespace Sys2Proof.Machine

/-- The invariant of every reachable state: both memories are in canonical form, `boot` inside its 256 bytes (R47), and F[3:0] = 0 (R36). -/
abbrev State.Inv (s : State) : Prop :=
  Memory.wf s.main = true ∧ Memory.canonical Config.overlaySize s.boot = true ∧ s.f &&& 0x0F = 0

/-- The step has a successor. -/
def SafeStep (s : State) : Prop := ∃ t, step s = .next t

/-- The state after `n` steps, if each of them has a successor. -/
def runFor : Nat → State → Option State
  | 0, s => some s
  | n + 1, s =>
    match step s with
    | .next t => runFor n t
    | .fault _ => none
    | .refused _ => none

end Sys2Proof.Machine
end

