-- ==== Sys2Proof/Certificates/Slice0/Obligations.lean ====
section
/-! DEFINITION. The statements for the provers. The vocabulary comes first: opcode bytes by their fields, what it is to run, and what it is to store. -/

namespace Sys2Proof.Stated

open Sys2Proof Sys2Proof.Machine

/-- The opcode byte with the fields x, y, z (R112, R113). -/
def opXyz (x y z : Nat) : Byte := BitVec.ofNat 8 (64 * x + 8 * y + z)

/-- The r field of a register (R116). -/
def regField : Reg8 → Nat
  | .b => 0
  | .c => 1
  | .d => 2
  | .e => 3
  | .h => 4
  | .l => 5
  | .a => 7

/-- The r field of an operand, (HL) being 6 (R116). -/
def operandField : Operand8 → Nat
  | .reg r => regField r
  | .indHl => 6

/-- The rr field (R117). -/
def pairField : Pair → Nat
  | .bc => 0
  | .de => 1
  | .hl => 2
  | .sp => 3

/-- The qq field (R118). -/
def stackPairField : StackPair → Nat
  | .bc => 0
  | .de => 1
  | .hl => 2
  | .af => 3

/-- The cc field (R119). -/
def condField : Cond → Nat
  | .nz => 0
  | .z => 1
  | .nc => 2
  | .c => 3

/-- The alu field (R120). -/
def aluField : AluOp → Nat
  | .add => 0
  | .adc => 1
  | .sub => 2
  | .sbc => 3
  | .and => 4
  | .xor => 5
  | .or => 6
  | .cp => 7

/-- The rot field (R121). -/
def rotField : RotOp → Nat
  | .rlc => 0
  | .rrc => 1
  | .rl => 2
  | .rr => 3
  | .sla => 4
  | .sra => 5
  | .swap => 6
  | .srl => 7

/-- The bytes of `alu A,s` (R350). -/
def aluBytes (op : AluOp) : AluSrc → List Byte
  | .reg r => [opXyz 2 (aluField op) (regField r)]
  | .indHl => [opXyz 2 (aluField op) 6]
  | .imm n => [opXyz 3 (aluField op) 6, n]

/-- The cost of `alu A,s`: 4 with a register, 8 with (HL) or an immediate (R350). -/
def aluCost : AluSrc → Nat
  | .reg _ => 4
  | .indHl => 8
  | .imm _ => 8

/-- The two bytes of a 16-bit immediate, low byte first (R114). -/
def le16 (v : Word) : List Byte := [BitVec.ofNat 8 v.toNat, BitVec.ofNat 8 (v.toNat / 256)]

/-- An instruction has exactly these bytes: the encoder gives them, the table's length is theirs, and the decoder reads the instruction from them whatever follows. -/
def HasBytes (i : Instr) (bytes : List Byte) : Prop :=
  encode i = bytes ∧ i.size = bytes.length ∧ ∀ rest, decode (bytes ++ rest) = .ok (i, rest)

/-- `exec i s` completes with the effect `u`, PC past `len` bytes, `cyc` cycles counted. Whatever `u` has as `s` has it is unchanged. -/
def Runs (i : Instr) (s u : State) (len cyc : Nat) : Prop :=
  exec i s = .next { u with pc := s.pc + BitVec.ofNat 16 len, cycleCount := s.cycleCount + BitVec.ofNat 64 cyc }

/-- `exec i s` completes with the effect `u`, PC at `target`, `cyc` cycles counted. -/
def RunsTo (i : Instr) (s u : State) (target : Word) (cyc : Nat) : Prop :=
  exec i s = .next { u with pc := target, cycleCount := s.cycleCount + BitVec.ofNat 64 cyc }

/-- `t` comes from `s` by storing these (address, byte) pairs, at distinct addresses, and by no other store.
Each byte is in `main`, every other byte of `main` and all of `boot` are as before; the latch falls exactly when 0xFF50 gets a byte with bit 0 set; and every address outside reads as before, but for the low 256 addresses when the latch falls. -/
def Stores (s t : State) (cells : List (Word × Byte)) : Prop :=
  (∀ c ∈ cells, Memory.read t.main c.1.toNat = c.2) ∧
  (∀ x : Word, (∀ c ∈ cells, x ≠ c.1) → Memory.read t.main x.toNat = Memory.read s.main x.toNat) ∧
  t.boot = s.boot ∧
  t.overlayActive = (s.overlayActive && cells.all fun c => !(c.1 == 0xFF50#16 && c.2.getLsbD 0)) ∧
  (∀ x : Word, (∀ c ∈ cells, x ≠ c.1) → (t.overlayActive = s.overlayActive ∨ 0x00FF < x.toNat) →
    t.readByte x = s.readByte x)

/-- `exec i s` completes; it stores exactly `cells`; and but for the stored bytes and the latch its next state is `u` with PC past `len` bytes and `cyc` cycles counted. -/
def StoreRuns (i : Instr) (s u : State) (cells : List (Word × Byte)) (len cyc : Nat) : Prop :=
  ∃ t, exec i s = .next t ∧ Stores s t cells ∧
    { t with main := s.main, overlayActive := s.overlayActive } =
      { u with pc := s.pc + BitVec.ofNat 16 len, cycleCount := s.cycleCount + BitVec.ofNat 64 cyc }

/-- The same with PC at `target`. -/
def StoreRunsTo (i : Instr) (s u : State) (cells : List (Word × Byte)) (target : Word) (cyc : Nat) : Prop :=
  ∃ t, exec i s = .next t ∧ Stores s t cells ∧
    { t with main := s.main, overlayActive := s.overlayActive } =
      { u with pc := target, cycleCount := s.cycleCount + BitVec.ofNat 64 cyc }

/-- What `Push16(v)` stores from the state `s`: the high byte at SP - 1, the low byte at SP - 2 (R250). -/
def pushed (s : State) (v : Word) : List (Word × Byte) :=
  [(s.sp - 1, BitVec.ofNat 8 (v.toNat / 256)), (s.sp - 2, BitVec.ofNat 8 v.toNat)]

/-- What `Pop16()` returns in the state `s` (R251). -/
def poppedValue (s : State) : Word := s.readByte (s.sp + 1) ++ s.readByte s.sp

/-- The effect of an 8-bit addition on A and the flags (R351, R353, R354). -/
def added (s : State) (v : Byte) (cin : Bool) : State :=
  let res := s.a + v + BitVec.ofNat 8 cin.toNat
  { s with
    a := res
    f := putZnhc s.f (decide (res = 0)) false (decide (0xF < s.a.toNat % 16 + v.toNat % 16 + cin.toNat))
      (decide (0xFF < s.a.toNat + v.toNat + cin.toNat)) }

/-- The effect of an 8-bit subtraction on A and the flags (R352, R355, R356). -/
def subtracted (s : State) (v : Byte) (cin : Bool) : State :=
  let res := s.a - v - BitVec.ofNat 8 cin.toNat
  { s with
    a := res
    f := putZnhc s.f (decide (res = 0)) true (decide (s.a.toNat % 16 < v.toNat % 16 + cin.toNat))
      (decide (s.a.toNat < v.toNat + cin.toNat)) }

/-- The byte a rotate, shift or SWAP makes of `v`, in arithmetic (R405 to R412). -/
def rotatedValue (op : RotOp) (v : Nat) (cin : Bool) : Byte :=
  BitVec.ofNat 8
    (match op with
    | .rlc => 2 * v % 256 + v / 128
    | .rrc => v / 2 + 128 * (v % 2)
    | .rl => 2 * v % 256 + cin.toNat
    | .rr => v / 2 + 128 * cin.toNat
    | .sla => 2 * v % 256
    | .sra => v / 2 + 128 * (v / 128)
    | .swap => 16 * (v % 16) + v / 16
    | .srl => v / 2)

/-- The bit it shifts out; SWAP gives 0 (R405 to R412). -/
def rotatedCarry (op : RotOp) (v : Nat) : Bool :=
  match op with
  | .rlc => decide (128 ≤ v)
  | .rrc => decide (v % 2 = 1)
  | .rl => decide (128 ≤ v)
  | .rr => decide (v % 2 = 1)
  | .sla => decide (128 ≤ v)
  | .sra => decide (v % 2 = 1)
  | .swap => false
  | .srl => decide (v % 2 = 1)

/-- `v` with bit `b` made `x` and every other bit as it is. -/
def IsWithBit (v res : Byte) (b : Fin 8) (x : Bool) : Prop :=
  ∀ j < 8, res.getLsbD j = if j = b.val then x else v.getLsbD j

/-- What DAA adds or subtracts (R551). -/
def daaDigits (a : Nat) (n h c : Bool) : Nat :=
  (if h = true ∨ (n = false ∧ 9 < a % 16) then 6 else 0) + (if c = true ∨ (n = false ∧ 0x99 < a) then 0x60 else 0)

/-- The eleven unimplemented slots and their opcodes (R125). -/
def unimplementedSlots : List (Byte × Instr) :=
  [(0xD3, .unimplementedD3), (0xDB, .unimplementedDB), (0xDD, .unimplementedDD), (0xE3, .unimplementedE3),
   (0xE4, .unimplementedE4), (0xEB, .unimplementedEB), (0xEC, .unimplementedEC), (0xED, .unimplementedED),
   (0xF4, .unimplementedF4), (0xFC, .unimplementedFC), (0xFD, .unimplementedFD)]

/-- The slots of the control transfers (R501 to R511): the instructions that may leave the sequential path. -/
def transferSlots : List Nat :=
  [0x18, 0x20, 0x28, 0x30, 0x38, 0xC0, 0xC2, 0xC3, 0xC4, 0xC7, 0xC8, 0xC9, 0xCA, 0xCC, 0xCD, 0xCF,
   0xD0, 0xD2, 0xD4, 0xD7, 0xD8, 0xD9, 0xDA, 0xDC, 0xDF, 0xE7, 0xE9, 0xEF, 0xF7, 0xFF]

/-- The instruction is JR, JP, CALL or RET on the condition `cc` (R129). -/
def HasCondition (i : Instr) (cc : Cond) : Prop :=
  ∃ (w : Word) (e : Byte), i = mkJr cc e ∨ i = mkJp cc w ∨ i = mkCall cc w ∨ i = mkRet cc

/-- What a table entry's flag effect says of a flag before and after. -/
def FlagAsDeclared (e : FlagEffect) (before after : Bool) : Prop :=
  match e with
  | .keep => after = before
  | .clear => after = false
  | .set => after = true
  | .computed => True

/-- The entry of an instruction in the decode table has this mnemonic and these operand descriptors (R128). -/
def Describes (i : Instr) (m : Mnemonic) (operands : List OperandDescriptor) : Prop :=
  i.row.mnemonic = some m ∧ i.row.operands = operands

/-- The descriptor of r or (HL) (R116, R130). -/
def operand8Descriptor : Operand8 → OperandDescriptor
  | .reg r => .value (.reg r)
  | .indHl => .address (.pair .hl)

/-- The descriptor of qq (R118, R130). -/
def stackPairDescriptor : StackPair → OperandDescriptor
  | .bc => .value (.pair .bc)
  | .de => .value (.pair .de)
  | .hl => .value (.pair .hl)
  | .af => .value .af

/-- The descriptor of the second operand of an accumulator operation (R350, R130). -/
def aluSrcDescriptor : AluSrc → OperandDescriptor
  | .reg r => .value (.reg r)
  | .indHl => .address (.pair .hl)
  | .imm _ => .value .n8

/-- The mnemonic of an accumulator operation (R120). -/
def aluMnemonic : AluOp → Mnemonic
  | .add => .add
  | .adc => .adc
  | .sub => .sub
  | .sbc => .sbc
  | .and => .and
  | .xor => .xor
  | .or => .or
  | .cp => .cp

/-- The mnemonic of a prefixed rotate, shift or SWAP (R121). -/
def rotMnemonic : RotOp → Mnemonic
  | .rlc => .rlc
  | .rrc => .rrc
  | .rl => .rl
  | .rr => .rr
  | .sla => .sla
  | .sra => .sra
  | .swap => .swap
  | .srl => .srl

/-- A state without the two interrupt latches, the cycle counter and the fatal record. -/
def withoutLatches (s : State) : State :=
  { s with ime := false, imePending := false, cycleCount := 0, fatalOpcode := 0, fatalPc := 0 }

end Sys2Proof.Stated

open Sys2Proof Sys2Proof.Machine Sys2Proof.Stated

/-! ## Reset, registers, flags, memory -/

/-- R50 and the algorithm of R650: Reset refuses an image over 256 bytes; else it builds the state of the reset table, with the image zero-padded and main as given by the cells `mem` of `memInit` (log 9). -/
def Obligations.ResetBuildsTheTableState : Prop :=
  ∀ (img : List Byte) (mem : List Host.Cell) (memInit : Nat → Byte),
    (∀ c ∈ mem, c.2 = memInit c.1) → (∀ a < 65536, a ∈ mem.map Prod.fst) →
    (256 < img.length → construct img mem = .error .badBootImage) ∧
    (img.length ≤ 256 → ∃ t, construct img mem = .ok t ∧
      t.a = 0x00 ∧ t.f = 0x00 ∧ t.b = 0x00 ∧ t.c = 0x00 ∧ t.d = 0x00 ∧ t.e = 0x00 ∧ t.h = 0x00 ∧ t.l = 0x00 ∧
      t.pc = 0x0000 ∧ t.sp = 0xFFFE ∧ t.runState = .running ∧ t.ime = false ∧ t.imePending = false ∧
      t.overlayActive = true ∧ t.cycleCount = 0 ∧
      (∀ a < 65536, Memory.read t.main a = memInit a) ∧
      (∀ i < 256, Memory.read t.boot i = img.getD i 0x00))

/-- The state after reset meets the invariant that `StepKeepsInvariant` carries on, and so does every state that Reset builds. -/
def Obligations.ResetMeetsInvariant : Prop :=
  State.reset.Inv ∧ ∀ img mem t, construct img mem = .ok t → t.Inv

/-- R32, R33, R34, and what R31 says of one register: each register keeps what is written to it, the pair views are high byte first, AF masks the low four bits; and no write touches anything else.
Beside them, which register, pair, operand or address each operand form is (R116 to R118, R350, R404, R78): the vocabulary of the later statements. -/
def Obligations.RegisterAndPairViews : Prop :=
  ∀ (s : State) (v : Word) (x : Byte) (r q : Reg8),
    s.reg .b = s.b ∧ s.reg .c = s.c ∧ s.reg .d = s.d ∧ s.reg .e = s.e ∧ s.reg .h = s.h ∧ s.reg .l = s.l ∧ s.reg .a = s.a ∧
    s.pair .bc = s.bc ∧ s.pair .de = s.de ∧ s.pair .hl = s.hl ∧ s.pair .sp = s.sp ∧
    s.setPair .bc v = s.setBc v ∧ s.setPair .de v = s.setDe v ∧ s.setPair .hl v = s.setHl v ∧
    s.setPair .sp v = { s with sp := v } ∧
    s.stackPair .bc = s.bc ∧ s.stackPair .de = s.de ∧ s.stackPair .hl = s.hl ∧ s.stackPair .af = s.af ∧
    s.setStackPair .bc v = s.setBc v ∧ s.setStackPair .de v = s.setDe v ∧ s.setStackPair .hl v = s.setHl v ∧
    s.setStackPair .af v = s.setAf v ∧
    s.operand (.reg r) = s.reg r ∧ s.operand .indHl = s.readByte s.hl ∧
    s.aluSource (.reg r) = s.reg r ∧ s.aluSource .indHl = s.readByte s.hl ∧ s.aluSource (.imm x) = x ∧
    highPage x = 0xFF#8 ++ x ∧
    (s.setReg r x).reg q = (if q = r then x else s.reg q) ∧
    { s.setReg r x with a := s.a, b := s.b, c := s.c, d := s.d, e := s.e, h := s.h, l := s.l } = s ∧
    s.af = s.a ++ s.f ∧ s.bc = s.b ++ s.c ∧ s.de = s.d ++ s.e ∧ s.hl = s.h ++ s.l ∧
    (s.setBc v).bc = v ∧ (s.setDe v).de = v ∧ (s.setHl v).hl = v ∧ (s.setAf v).af = v &&& 0xFFF0 ∧
    s.setBc v = { s with b := BitVec.ofNat 8 (v.toNat / 256), c := BitVec.ofNat 8 v.toNat } ∧
    s.setDe v = { s with d := BitVec.ofNat 8 (v.toNat / 256), e := BitVec.ofNat 8 v.toNat } ∧
    s.setHl v = { s with h := BitVec.ofNat 8 (v.toNat / 256), l := BitVec.ofNat 8 v.toNat } ∧
    s.setAf v = { s with a := BitVec.ofNat 8 (v.toNat / 256), f := BitVec.ofNat 8 v.toNat &&& 0xF0 }

/-- R35: Z, N, Hf, Cy are bits 7 to 4 of F, each independently settable and clearable, one, three or four at a time; the other bits are not touched. -/
def Obligations.FlagBitsAreIndependent : Prop :=
  ∀ (f : Byte) (x : Flag) (v : Bool) (z n h c : Bool),
    getFlag f .z = f.getLsbD 7 ∧ getFlag f .n = f.getLsbD 6 ∧ getFlag f .h = f.getLsbD 5 ∧ getFlag f .c = f.getLsbD 4 ∧
    (∀ j < 8, (putFlag f x v).getLsbD j = if j = x.pos then v else f.getLsbD j) ∧
    (∀ j < 8, (putZnhc f z n h c).getLsbD j =
      if j = 7 then z else if j = 6 then n else if j = 5 then h else if j = 4 then c else f.getLsbD j) ∧
    (∀ j < 8, (putZnh f z n h).getLsbD j = if j = 7 then z else if j = 6 then n else if j = 5 then h else f.getLsbD j) ∧
    (∀ j < 8, (putNhc f n h c).getLsbD j = if j = 6 then n else if j = 5 then h else if j = 4 then c else f.getLsbD j)

/-- R73, R75: what a read finds, before and after a write, the overlay and its latch included; the write stores the value in `main` at its address, under the overlay too, and no other byte of `main` changes. -/
def Obligations.ReadAfterWriteThroughOverlay : Prop :=
  ∀ (s : State) (x y : Word) (v : Byte),
    let t := s.writeByte x v
    s.readByte y =
      (if s.overlayActive = true ∧ y.toNat ≤ 0x00FF then Memory.read s.boot y.toNat else Memory.read s.main y.toNat) ∧
    (∀ k : Word, Memory.read t.main k.toNat = if k = x then v else Memory.read s.main k.toNat) ∧
    t.overlayActive = (if x = 0xFF50 ∧ v.getLsbD 0 = true then false else s.overlayActive) ∧
    t.readByte y =
      (if t.overlayActive = true ∧ y.toNat ≤ 0x00FF then Memory.read s.boot y.toNat
      else if y = x then v else Memory.read s.main y.toNat) ∧
    { t with main := s.main, overlayActive := s.overlayActive } = s

/-- R74, R76: words are little-endian and their second address wraps. -/
def Obligations.WordAccessWraps : Prop :=
  ∀ (s : State) (x v : Word),
    s.readWord x = s.readByte (x + 1) ++ s.readByte x ∧
    s.readWord 0xFFFF = s.readByte 0x0000 ++ s.readByte 0xFFFF ∧
    Stores s (s.writeWord x v) [(x, BitVec.ofNat 8 v.toNat), (x + 1, BitVec.ofNat 8 (v.toNat / 256))] ∧
    { s.writeWord x v with main := s.main, overlayActive := s.overlayActive } = s

/-- R255: PUSH qq then POP qq restores qq and SP, AF masked; each of the two stack bytes that the overlay hides comes from boot instead, one of them alone where the stack straddles the overlay's edge (R251). -/
def Obligations.PushThenPopRestores : Prop :=
  ∀ (q : StackPair) (s : State), ∃ t u,
    exec (mkPush q) s = .next t ∧ exec (mkPop q) t = .next u ∧ u.sp = s.sp ∧
    ((t.overlayActive = false ∨ (0x00FF < (s.sp - 1).toNat ∧ 0x00FF < (s.sp - 2).toNat)) →
      u.stackPair q = (if q = .af then s.stackPair q &&& 0xFFF0 else s.stackPair q)) ∧
    u.stackPair q =
      ((if t.overlayActive = true ∧ (s.sp - 1).toNat ≤ 0x00FF then Memory.read s.boot (s.sp - 1).toNat
        else BitVec.ofNat 8 ((s.stackPair q).toNat / 256)) ++
      (if t.overlayActive = true ∧ (s.sp - 2).toNat ≤ 0x00FF then Memory.read s.boot (s.sp - 2).toNat
        else BitVec.ofNat 8 (s.stackPair q).toNat)) &&&
        (if q = .af then 0xFFF0#16 else 0xFFFF#16)

/-! ## Encoding -/

/-- Decoding the bytes of a well-formed instruction gives it back, with every operand, whatever bytes follow. -/
def Obligations.DecodeOfEncode : Prop :=
  ∀ i : Instr, i.wf = true → ∀ rest, decode (encode i ++ rest) = .ok (i, rest)

/-- Every three bytes begin with exactly one well-formed instruction, whose encoding is the bytes it takes: no encoding is undefined, and no bit of one is dropped. -/
def Obligations.EncodeOfDecode : Prop :=
  ∀ op n1 n2 : Byte,
    (decodeBytes op n1 n2).wf = true ∧ 1 ≤ (decodeBytes op n1 n2).size ∧ (decodeBytes op n1 n2).size ≤ 3 ∧
    encode (decodeBytes op n1 n2) = [op, n1, n2].take (decodeBytes op n1 n2).size

/-- R115: the length is known from the first byte alone. -/
def Obligations.LengthFromFirstByte : Prop :=
  ∀ op n1 n2 : Byte, (decodeBytes op n1 n2).size =
    if op ∈ ([0xCB, 0x06, 0x0E, 0x16, 0x1E, 0x26, 0x2E, 0x36, 0x3E, 0x10, 0x18, 0x20, 0x28, 0x30, 0x38,
      0xC6, 0xCE, 0xD6, 0xDE, 0xE6, 0xEE, 0xF6, 0xFE, 0xE0, 0xF0, 0xE8, 0xF8] : List Byte) then 2
    else if op ∈ ([0x01, 0x11, 0x21, 0x31, 0x08, 0xC2, 0xC3, 0xCA, 0xD2, 0xDA, 0xC4, 0xCC, 0xCD, 0xD4, 0xDC,
      0xEA, 0xFA] : List Byte) then 3
    else 1

/-- The selection of R142: 0xCB selects slot 256 + second byte, any other byte selects its own slot. -/
def Obligations.SlotOfFetchedBytes : Prop :=
  ∀ op n1 n2 : Byte, (decodeBytes op n1 n2).row.slot = if op = 0xCB then 256 + n1.toNat else op.toNat

/-- Words written out from the encodings of the spec's rules decode to their instructions, one or more a family.
The last clause is the model's own (log 13, DESIGN CHOICE): a list that ends inside its instruction is rejected by name. -/
def Obligations.SampleWordsDecode : Prop :=
  decode [0b01001000] = .ok (.ldCB, []) ∧
  decode [0x21, 0x34, 0x12] = .ok (.ldHlN16 0x1234, []) ∧
  decode [0b11110101] = .ok (.pushAf, []) ∧
  decode [0b00110100] = .ok (.incIndHl, []) ∧
  decode [0b10011110] = .ok (.sbcAIndHl, []) ∧
  decode [0xCB, 0b00110111] = .ok (.cbSwapA, []) ∧
  decode [0xCB, 0b01111100] = .ok (.cbBit7H, []) ∧
  decode [0b00100000, 0xFC] = .ok (.jrNzE8 0xFC, []) ∧
  decode [0x10, 0x00] = .ok (.stop 0x00, []) ∧
  decode [0xD3] = .ok (.unimplementedD3, []) ∧
  decode [0xCD, 0x00] = .error (.truncated 0xCD)

/-! ## The step -/

/-- A running step is the instruction at PC, its bytes read at consecutive addresses, then the promotion of an EI that was pending before it. -/
def Obligations.StepRunsInstructionAtPc : Prop :=
  ∀ (s : State) (i : Instr) (rest : List Byte), s.runState = .running →
    decode [s.readByte s.pc, s.readByte (s.pc + 1), s.readByte (s.pc + 2)] = .ok (i, rest) →
    step s =
      match exec i s with
      | .next t =>
        .next (if t.runState ≠ .fatal ∧ s.imePending = true ∧ t.imePending = true
          then { t with ime := true, imePending := false } else t)
      | .fault r => .fault r
      | .refused r => .refused r

/-- R148: an idle step changes the cycle counter and nothing else. -/
def Obligations.IdleStepOnlyCounts : Prop :=
  ∀ s : State, (s.runState = .halted ∨ s.runState = .stopped) →
    step s = .next { s with cycleCount := s.cycleCount + 4 } ∧ stepResult s = some (.ok 4)

/-- R149: FATAL has no successor, and the step reports the recorded diagnostic. -/
def Obligations.FatalHasNoSuccessor : Prop :=
  ∀ s : State, s.runState = .fatal →
    step s = .fault (.unimplementedOpcode s.fatalOpcode s.fatalPc) ∧
    stepResult s = some (.fatal s.fatalOpcode s.fatalPc)

/-- R600: a running step that meets one of the eleven opcodes commits nothing, records the diagnostic and stops the machine. -/
def Obligations.UnimplementedOpcodeIsFatal : Prop :=
  ∀ s : State, s.runState = .running → s.readByte s.pc ∈ unimplementedSlots.map Prod.fst →
    step s = .next { s with runState := .fatal, fatalOpcode := s.readByte s.pc, fatalPc := s.pc } ∧
    stepResult s = some (.fatal (s.readByte s.pc) s.pc)

/-- R145: a step reports, and adds to the cycle counter, the second declared cost of its slot where the condition is false, else the first; the slots with two costs are the conditional ones. -/
def Obligations.StepReportsDeclaredCost : Prop :=
  ∀ s : State, s.runState = .running → s.readByte s.pc ∉ unimplementedSlots.map Prod.fst →
    ∃ t n, step s = .next t ∧ n ∈ s.fetchInstr.row.cycles ∧ 0 < n ∧
      t.cycleCount = s.cycleCount + BitVec.ofNat 64 n ∧ stepResult s = some (.ok n) ∧
      (∀ cc, HasCondition s.fetchInstr cc → s.cond cc = false → n = s.fetchInstr.row.cycles.getD 1 0) ∧
      ((∀ cc, HasCondition s.fetchInstr cc → s.cond cc = true) → n = s.fetchInstr.row.cycles.getD 0 0) ∧
      (s.fetchInstr.row.cycles.length = 2 ↔ ∃ cc, HasCondition s.fetchInstr cc)

/-- R146: an instruction that is no control transfer, or whose condition is false, leaves PC at the next sequential instruction. -/
def Obligations.SequentialPc : Prop :=
  ∀ (i : Instr) (s : State), i.wf = true → i ∉ unimplementedSlots.map Prod.snd →
    (i.row.slot ∉ transferSlots ∨ ∃ cc, HasCondition i cc ∧ s.cond cc = false) →
    ∃ t, exec i s = .next t ∧ t.pc = s.pc + BitVec.ofNat 16 i.size

/-- From R37, R144: what an instruction does to each flag is what its table entry declares, and only POP AF writes the low four bits of F. -/
def Obligations.FlagsAsDeclared : Prop :=
  ∀ (i : Instr) (s : State), i.wf = true → ∃ t, exec i s = .next t ∧
    FlagAsDeclared i.row.z (getFlag s.f .z) (getFlag t.f .z) ∧
    FlagAsDeclared i.row.n (getFlag s.f .n) (getFlag t.f .n) ∧
    FlagAsDeclared i.row.h (getFlag s.f .h) (getFlag t.f .h) ∧
    FlagAsDeclared i.row.c (getFlag s.f .c) (getFlag t.f .c) ∧
    (i ≠ .popAf → t.f &&& 0x0F = s.f &&& 0x0F)

/-! ## Rules of the whole machine -/

/-- From R36, and the canonical form of memory (the model's own): every step keeps the invariant. -/
def Obligations.StepKeepsInvariant : Prop :=
  ∀ s t : State, s.Inv → step s = .next t → t.Inv

/-- Every instruction completes in every state, and a step fails in FATAL only.
That the prefix marker, which R126 never dispatches, completes too is the model's own (log 5, DEDUCED). -/
def Obligations.OnlyFatalStops : Prop :=
  (∀ (i : Instr) (s : State), ∃ t, exec i s = .next t) ∧ ∀ s : State, SafeStep s ↔ s.runState ≠ .fatal

/-- From R44: the latch is set at construction, never rises, and falls only with bit 0 written to 0xFF50; boot is never written after construction. -/
def Obligations.OverlayLatchIsOneWay : Prop :=
  (∀ img mem t, construct img mem = .ok t → t.overlayActive = true) ∧
  ∀ s t : State, step s = .next t →
    t.boot = s.boot ∧ (s.overlayActive = false → t.overlayActive = false) ∧
    (s.overlayActive = true → t.overlayActive = false → (Memory.read t.main 0xFF50).getLsbD 0 = true)

/-- R42: only HALT, STOP and the unimplemented slots leave RUNNING, the state after reset; no step leaves HALTED or STOPPED; FATAL is terminal. -/
def Obligations.OnlyTheseLeaveRunning : Prop :=
  (∀ img mem t, construct img mem = .ok t → t.runState = .running) ∧
  ∀ s t : State, step s = .next t → s.runState ≠ .fatal ∧
    (s.runState = .running →
      (t.runState = .halted ↔ s.fetchInstr = .halt) ∧
      (t.runState = .stopped ↔ ∃ n, s.fetchInstr = .stop n) ∧
      (t.runState = .fatal ↔ s.fetchInstr ∈ unimplementedSlots.map Prod.snd)) ∧
    (s.runState = .halted → t.runState = .halted) ∧ (s.runState = .stopped → t.runState = .stopped)

/-- R152: the two interrupt latches after any running step. -/
def Obligations.InterruptLatchesAfterStep : Prop :=
  ∀ s t : State, s.runState = .running → step s = .next t → t.runState ≠ .fatal →
    (s.fetchInstr = .di → t.ime = false ∧ t.imePending = false) ∧
    (s.fetchInstr = .reti → t.ime = true ∧ t.imePending = false) ∧
    (s.fetchInstr = .ei → t.ime = (s.ime || s.imePending) ∧ t.imePending = !s.imePending) ∧
    (s.fetchInstr ∉ [.di, .reti, .ei] → t.ime = (s.ime || s.imePending) ∧ t.imePending = false)

/-- From R605, R615, R46: nothing a step does elsewhere depends on the interrupt latches, the cycle counter or (outside FATAL) the fatal record. -/
def Obligations.LatchesDoNotInfluence : Prop :=
  ∀ s s' t : State, s.runState ≠ .fatal → withoutLatches s = withoutLatches s' → step s = .next t →
    ∃ t', step s' = .next t' ∧ withoutLatches t = withoutLatches t' ∧
      (t.runState = .fatal → t'.fatalOpcode = t.fatalOpcode ∧ t'.fatalPc = t.fatalPc)

/-- R351, R352: half-carry and carry of Add8 and Sub8 in the closed forms of 95_test_vectors.md, for all operands. -/
def Obligations.ArithmeticClosedForms : Prop :=
  ∀ (a b : Byte) (cin : Bool),
    (add8 a b cin).res.toNat = (a.toNat + b.toNat + cin.toNat) % 256 ∧
    (add8 a b cin).h = (a ^^^ b ^^^ (add8 a b cin).res).getLsbD 4 ∧
    (add8 a b cin).c = decide ((a.toNat + b.toNat + cin.toNat) / 256 = 1) ∧
    ((sub8 a b cin).res.toNat : Int) = ((a.toNat : Int) - b.toNat - cin.toNat) % 256 ∧
    (sub8 a b cin).h = (a ^^^ b ^^^ (sub8 a b cin).res).getLsbD 4 ∧
    (sub8 a b cin).c = decide ((a.toNat : Int) - b.toNat - cin.toNat < 0)

/-! ## Data moves -/

/-- R201: LD r,r'. -/
def Obligations.LoadRegisterFromRegister : Prop :=
  ∀ (dst src : Reg8) (s : State),
    HasBytes (mkLd (.reg dst) (.reg src)) [opXyz 1 (regField dst) (regField src)] ∧
    Runs (mkLd (.reg dst) (.reg src)) s (s.setReg dst (s.reg src)) 1 4

/-- R202, R206, R207, R210, R212, R214: the loads of a byte from memory. -/
def Obligations.LoadByteFromMemory : Prop :=
  ∀ (dst : Reg8) (n : Byte) (addr : Word) (s : State),
    HasBytes (mkLd (.reg dst) .indHl) [opXyz 1 (regField dst) 6] ∧
    Runs (mkLd (.reg dst) .indHl) s (s.setReg dst (s.readByte (s.h ++ s.l))) 1 8 ∧
    HasBytes .ldAIndBc [0x0A] ∧ Runs .ldAIndBc s { s with a := s.readByte (s.b ++ s.c) } 1 8 ∧
    HasBytes .ldAIndDe [0x1A] ∧ Runs .ldAIndDe s { s with a := s.readByte (s.d ++ s.e) } 1 8 ∧
    HasBytes (.ldAIndA16 addr) (0xFA :: le16 addr) ∧
    Runs (.ldAIndA16 addr) s { s with a := s.readByte addr } 3 16 ∧
    HasBytes (.ldhAIndA8 n) [0xF0, n] ∧ Runs (.ldhAIndA8 n) s { s with a := s.readByte (0xFF#8 ++ n) } 2 12 ∧
    HasBytes .ldAIndC [0xF2] ∧ Runs .ldAIndC s { s with a := s.readByte (0xFF#8 ++ s.c) } 1 8

/-- R204, R220, R222: the immediate loads and LD SP,HL. -/
def Obligations.LoadImmediate : Prop :=
  ∀ (dst : Reg8) (p : Pair) (n : Byte) (v : Word) (s : State),
    HasBytes (mkLdImm (.reg dst) n) [opXyz 0 (regField dst) 6, n] ∧
    Runs (mkLdImm (.reg dst) n) s (s.setReg dst n) 2 8 ∧
    HasBytes (mkLdPairImm p v) (opXyz 0 (2 * pairField p) 1 :: le16 v) ∧
    Runs (mkLdPairImm p v) s (s.setPair p v) 3 12 ∧
    HasBytes .ldSpHl [0xF9] ∧ Runs .ldSpHl s { s with sp := s.h ++ s.l } 1 8

/-- R218, R219: LD A,(HL+) and LD A,(HL-). -/
def Obligations.LoadThenStepHl : Prop :=
  ∀ s : State,
    HasBytes .ldAIndHlInc [0x2A] ∧ Runs .ldAIndHlInc s ({ s with a := s.readByte s.hl }.setHl (s.hl + 1)) 1 8 ∧
    HasBytes .ldAIndHlDec [0x3A] ∧ Runs .ldAIndHlDec s ({ s with a := s.readByte s.hl }.setHl (s.hl - 1)) 1 8

/-- R203, R205, R208, R209, R211, R213, R215: the stores of a byte, where each of them goes and that nothing else changes. -/
def Obligations.StoreByteToMemory : Prop :=
  ∀ (src : Reg8) (n : Byte) (addr : Word) (s : State),
    HasBytes (mkLd .indHl (.reg src)) [opXyz 1 6 (regField src)] ∧
    StoreRuns (mkLd .indHl (.reg src)) s s [(s.hl, s.reg src)] 1 8 ∧
    HasBytes (.ldIndHlN8 n) [0x36, n] ∧ StoreRuns (.ldIndHlN8 n) s s [(s.hl, n)] 2 12 ∧
    HasBytes .ldIndBcA [0x02] ∧ StoreRuns .ldIndBcA s s [(s.bc, s.a)] 1 8 ∧
    HasBytes .ldIndDeA [0x12] ∧ StoreRuns .ldIndDeA s s [(s.de, s.a)] 1 8 ∧
    HasBytes (.ldIndA16A addr) (0xEA :: le16 addr) ∧ StoreRuns (.ldIndA16A addr) s s [(addr, s.a)] 3 16 ∧
    HasBytes (.ldhIndA8A n) [0xE0, n] ∧ StoreRuns (.ldhIndA8A n) s s [(highPage n, s.a)] 2 12 ∧
    HasBytes .ldIndCA [0xE2] ∧ StoreRuns .ldIndCA s s [(highPage s.c, s.a)] 1 8

/-- R216, R217: LD (HL+),A and LD (HL-),A store at the old HL. -/
def Obligations.StoreThenStepHl : Prop :=
  ∀ s : State,
    HasBytes .ldIndHlIncA [0x22] ∧ StoreRuns .ldIndHlIncA s (s.setHl (s.hl + 1)) [(s.hl, s.a)] 1 8 ∧
    HasBytes .ldIndHlDecA [0x32] ∧ StoreRuns .ldIndHlDecA s (s.setHl (s.hl - 1)) [(s.hl, s.a)] 1 8

/-- R221: LD (a16),SP stores the low byte first. -/
def Obligations.StoreStackPointer : Prop :=
  ∀ (addr : Word) (s : State),
    HasBytes (.ldIndA16Sp addr) (0x08 :: le16 addr) ∧
    StoreRuns (.ldIndA16Sp addr) s s
      [(addr, BitVec.ofNat 8 s.sp.toNat), (addr + 1, BitVec.ofNat 8 (s.sp.toNat / 256))] 3 20

/-! ## Stack moves -/

/-- R250, R252: PUSH qq. -/
def Obligations.PushStoresPair : Prop :=
  ∀ (q : StackPair) (s : State),
    HasBytes (mkPush q) [opXyz 3 (2 * stackPairField q) 5] ∧
    StoreRuns (mkPush q) s { s with sp := s.sp - 2 } (pushed s (s.stackPair q)) 1 16

/-- R251, R253, R254: POP qq; POP AF loads the four flags and forces the low four bits of F to zero. -/
def Obligations.PopLoadsPair : Prop :=
  ∀ (q : StackPair) (s : State),
    HasBytes (mkPop q) [opXyz 3 (2 * stackPairField q) 1] ∧
    Runs (mkPop q) s ({ s with sp := s.sp + 2 }.setStackPair q (poppedValue s)) 1 12 ∧
    Runs .popAf s { s with sp := s.sp + 2, a := s.readByte (s.sp + 1), f := s.readByte s.sp &&& 0xF0 } 1 12

/-! ## Increment and decrement -/

/-- R300, R302: INC r and DEC r write Z, N, Hf and never Cy. -/
def Obligations.IncDecRegister : Prop :=
  ∀ (r : Reg8) (s : State),
    HasBytes (mkInc (.reg r)) [opXyz 0 (regField r) 4] ∧
    Runs (mkInc (.reg r)) s { s.setReg r (s.reg r + 1) with
      f := putZnh s.f (decide (s.reg r + 1 = 0)) false (decide ((s.reg r).toNat % 16 = 15)) } 1 4 ∧
    HasBytes (mkDec (.reg r)) [opXyz 0 (regField r) 5] ∧
    Runs (mkDec (.reg r)) s { s.setReg r (s.reg r - 1) with
      f := putZnh s.f (decide (s.reg r - 1 = 0)) true (decide ((s.reg r).toNat % 16 = 0)) } 1 4

/-- R301, R303: INC (HL) and DEC (HL). -/
def Obligations.IncDecMemory : Prop :=
  ∀ s : State,
    HasBytes .incIndHl [0x34] ∧
    StoreRuns .incIndHl s { s with
      f := putZnh s.f (decide (s.readByte s.hl + 1 = 0)) false (decide ((s.readByte s.hl).toNat % 16 = 15)) }
      [(s.hl, s.readByte s.hl + 1)] 1 12 ∧
    HasBytes .decIndHl [0x35] ∧
    StoreRuns .decIndHl s { s with
      f := putZnh s.f (decide (s.readByte s.hl - 1 = 0)) true (decide ((s.readByte s.hl).toNat % 16 = 0)) }
      [(s.hl, s.readByte s.hl - 1)] 1 12

/-- R304, R305: INC rr and DEC rr write no flag. -/
def Obligations.IncDecPair : Prop :=
  ∀ (p : Pair) (s : State),
    HasBytes (mkIncPair p) [opXyz 0 (2 * pairField p) 3] ∧
    Runs (mkIncPair p) s (s.setPair p (s.pair p + 1)) 1 8 ∧
    HasBytes (mkDecPair p) [opXyz 0 (2 * pairField p + 1) 3] ∧
    Runs (mkDecPair p) s (s.setPair p (s.pair p - 1)) 1 8

/-! ## Arithmetic and logic -/

/-- R350, R351, R353, R354: ADD and ADC in every operand form. -/
def Obligations.AddWithAllOperands : Prop :=
  ∀ (src : AluSrc) (s : State),
    HasBytes (mkAlu .add src) (aluBytes .add src) ∧
    Runs (mkAlu .add src) s (added s (s.aluSource src) false) (aluBytes .add src).length (aluCost src) ∧
    HasBytes (mkAlu .adc src) (aluBytes .adc src) ∧
    Runs (mkAlu .adc src) s (added s (s.aluSource src) (getFlag s.f .c)) (aluBytes .adc src).length (aluCost src)

/-- R350, R352, R355, R356: SUB and SBC in every operand form. -/
def Obligations.SubtractWithAllOperands : Prop :=
  ∀ (src : AluSrc) (s : State),
    HasBytes (mkAlu .sub src) (aluBytes .sub src) ∧
    Runs (mkAlu .sub src) s (subtracted s (s.aluSource src) false) (aluBytes .sub src).length (aluCost src) ∧
    HasBytes (mkAlu .sbc src) (aluBytes .sbc src) ∧
    Runs (mkAlu .sbc src) s (subtracted s (s.aluSource src) (getFlag s.f .c)) (aluBytes .sbc src).length (aluCost src)

/-- R357, R358, R359: AND sets Hf, XOR and OR clear it, all three clear N and Cy. -/
def Obligations.LogicWithAllOperands : Prop :=
  ∀ (src : AluSrc) (s : State),
    let v := s.aluSource src
    HasBytes (mkAlu .and src) (aluBytes .and src) ∧
    Runs (mkAlu .and src) s { s with a := s.a &&& v, f := putZnhc s.f (decide (s.a &&& v = 0)) false true false }
      (aluBytes .and src).length (aluCost src) ∧
    HasBytes (mkAlu .xor src) (aluBytes .xor src) ∧
    Runs (mkAlu .xor src) s { s with a := s.a ^^^ v, f := putZnhc s.f (decide (s.a ^^^ v = 0)) false false false }
      (aluBytes .xor src).length (aluCost src) ∧
    HasBytes (mkAlu .or src) (aluBytes .or src) ∧
    Runs (mkAlu .or src) s { s with a := s.a ||| v, f := putZnhc s.f (decide (s.a ||| v = 0)) false false false }
      (aluBytes .or src).length (aluCost src)

/-- R360: CP writes the flags of SUB and leaves A. -/
def Obligations.CompareLeavesA : Prop :=
  ∀ (src : AluSrc) (s : State),
    HasBytes (mkAlu .cp src) (aluBytes .cp src) ∧
    Runs (mkAlu .cp src) s { subtracted s (s.aluSource src) false with a := s.a }
      (aluBytes .cp src).length (aluCost src)

/-- R361: ADD HL,rr; Hf is the carry out of bit 11, Z is not written. -/
def Obligations.AddToHl : Prop :=
  ∀ (p : Pair) (s : State),
    HasBytes (mkAddHl p) [opXyz 0 (2 * pairField p + 1) 1] ∧
    Runs (mkAddHl p) s { s.setHl (s.hl + s.pair p) with
      f := putNhc s.f false (decide (0x0FFF < s.hl.toNat % 4096 + (s.pair p).toNat % 4096))
        (decide (0xFFFF < s.hl.toNat + (s.pair p).toNat)) } 1 8

/-- R362, R363: ADD SP,e8 and LD HL,SP+e8; the flags come from the low byte of SP and the unsigned byte. -/
def Obligations.StackPointerPlusOffset : Prop :=
  ∀ (e : Byte) (s : State),
    let f := putZnhc s.f false false (decide (0xF < s.sp.toNat % 16 + e.toNat % 16))
      (decide (0xFF < s.sp.toNat % 256 + e.toNat))
    HasBytes (.addSpE8 e) [0xE8, e] ∧ Runs (.addSpE8 e) s { s with f := f, sp := s.sp + e.signExtend 16 } 2 16 ∧
    HasBytes (.ldHlSpE8 e) [0xF8, e] ∧
    Runs (.ldHlSpE8 e) s { s.setHl (s.sp + e.signExtend 16) with f := f } 2 12

/-! ## Rotates, shifts, bits -/

/-- R400 to R403: the accumulator rotates clear Z whatever the result. -/
def Obligations.AccumulatorRotates : Prop :=
  ∀ s : State,
    let u := fun op => { s with
      a := rotatedValue op s.a.toNat (getFlag s.f .c)
      f := putZnhc s.f false false false (rotatedCarry op s.a.toNat) }
    HasBytes .rlca [0x07] ∧ Runs .rlca s (u .rlc) 1 4 ∧ HasBytes .rrca [0x0F] ∧ Runs .rrca s (u .rrc) 1 4 ∧
    HasBytes .rla [0x17] ∧ Runs .rla s (u .rl) 1 4 ∧ HasBytes .rra [0x1F] ∧ Runs .rra s (u .rr) 1 4

/-- R404 to R412, on a register and on the byte at HL. -/
def Obligations.PrefixedRotatesAndShifts : Prop :=
  ∀ (op : RotOp) (r : Reg8) (s : State),
    let res := rotatedValue op (s.reg r).toNat (getFlag s.f .c)
    let m := s.readByte s.hl
    let resM := rotatedValue op m.toNat (getFlag s.f .c)
    HasBytes (mkRot op (.reg r)) [0xCB, opXyz 0 (rotField op) (regField r)] ∧
    Runs (mkRot op (.reg r)) s { s.setReg r res with
      f := putZnhc s.f (decide (res = 0)) false false (rotatedCarry op (s.reg r).toNat) } 2 8 ∧
    HasBytes (mkRot op .indHl) [0xCB, opXyz 0 (rotField op) 6] ∧
    StoreRuns (mkRot op .indHl) s { s with
      f := putZnhc s.f (decide (resM = 0)) false false (rotatedCarry op m.toNat) } [(s.hl, resM)] 2 16

/-- R450: BIT b,r writes Z, N and Hf and nothing else. -/
def Obligations.BitTestWritesNoByte : Prop :=
  ∀ (b : Fin 8) (o : Operand8) (s : State),
    HasBytes (mkBit b o) [0xCB, opXyz 1 b.val (operandField o)] ∧
    Runs (mkBit b o) s { s with f := putZnh s.f (decide ((s.operand o).getLsbD b.val = false)) false true } 2
      (match o with
      | .reg _ => 8
      | .indHl => 12)

/-- R451, R452: RES and SET change one bit of one register, or of the byte at HL, and no flag. -/
def Obligations.BitClearAndSet : Prop :=
  ∀ (b : Fin 8) (r : Reg8) (s : State),
    (∃ res, IsWithBit (s.reg r) res b false ∧ Runs (mkRes b (.reg r)) s (s.setReg r res) 2 8) ∧
    (∃ res, IsWithBit (s.reg r) res b true ∧ Runs (mkSet b (.reg r)) s (s.setReg r res) 2 8) ∧
    (∃ res, IsWithBit (s.readByte s.hl) res b false ∧ StoreRuns (mkRes b .indHl) s s [(s.hl, res)] 2 16) ∧
    (∃ res, IsWithBit (s.readByte s.hl) res b true ∧ StoreRuns (mkSet b .indHl) s s [(s.hl, res)] 2 16) ∧
    HasBytes (mkRes b (.reg r)) [0xCB, opXyz 2 b.val (regField r)] ∧
    HasBytes (mkSet b (.reg r)) [0xCB, opXyz 3 b.val (regField r)] ∧
    HasBytes (mkRes b .indHl) [0xCB, opXyz 2 b.val 6] ∧ HasBytes (mkSet b .indHl) [0xCB, opXyz 3 b.val 6]

/-! ## Control transfer -/

/-- R501, R503, R504: JP a16, JP HL, JR e8. -/
def Obligations.UnconditionalJumps : Prop :=
  ∀ (addr : Word) (e : Byte) (s : State),
    HasBytes (.jpA16 addr) (0xC3 :: le16 addr) ∧ RunsTo (.jpA16 addr) s s addr 16 ∧
    HasBytes .jpHl [0xE9] ∧ RunsTo .jpHl s s (s.h ++ s.l) 4 ∧
    HasBytes (.jrE8 e) [0x18, e] ∧ RunsTo (.jrE8 e) s s (s.pc + 2 + e.signExtend 16) 12

/-- R500, R502, R505: the condition, and JP cc and JR cc taken and not taken. -/
def Obligations.ConditionalJumps : Prop :=
  ∀ (cc : Cond) (addr : Word) (e : Byte) (s : State),
    s.cond cc = (match cc with
      | .nz => !s.f.getLsbD 7
      | .z => s.f.getLsbD 7
      | .nc => !s.f.getLsbD 4
      | .c => s.f.getLsbD 4) ∧
    HasBytes (mkJp cc addr) (opXyz 3 (condField cc) 2 :: le16 addr) ∧
    (if s.cond cc = true then RunsTo (mkJp cc addr) s s addr 16 else Runs (mkJp cc addr) s s 3 12) ∧
    HasBytes (mkJr cc e) [opXyz 0 (4 + condField cc) 0, e] ∧
    (if s.cond cc = true then RunsTo (mkJr cc e) s s (s.pc + 2 + e.signExtend 16) 12 else Runs (mkJr cc e) s s 2 8)

/-- R506, R507, R511: CALL, CALL cc and RST push the address of the next instruction. -/
def Obligations.CallsPushReturnAddress : Prop :=
  ∀ (cc : Cond) (addr : Word) (v : Fin 8) (s : State),
    let u := { s with sp := s.sp - 2 }
    HasBytes (.callA16 addr) (0xCD :: le16 addr) ∧ StoreRunsTo (.callA16 addr) s u (pushed s (s.pc + 3)) addr 24 ∧
    HasBytes (mkCall cc addr) (opXyz 3 (condField cc) 4 :: le16 addr) ∧
    (if s.cond cc = true then StoreRunsTo (mkCall cc addr) s u (pushed s (s.pc + 3)) addr 24
      else Runs (mkCall cc addr) s s 3 12) ∧
    HasBytes (mkRst v) [opXyz 3 v.val 7] ∧
    StoreRunsTo (mkRst v) s u (pushed s (s.pc + 1)) (BitVec.ofNat 16 (8 * v.val)) 16

/-- R508, R509, R510: RET, RET cc and RETI pop PC; RETI sets ime at once. -/
def Obligations.ReturnsPopPc : Prop :=
  ∀ (cc : Cond) (s : State),
    let u := { s with sp := s.sp + 2 }
    HasBytes .ret [0xC9] ∧ RunsTo .ret s u (poppedValue s) 16 ∧
    HasBytes (mkRet cc) [opXyz 3 (condField cc) 0] ∧
    (if s.cond cc = true then RunsTo (mkRet cc) s u (poppedValue s) 20 else Runs (mkRet cc) s s 1 8) ∧
    HasBytes .reti [0xD9] ∧ RunsTo .reti s { u with ime := true } (poppedValue s) 16

/-! ## Miscellaneous, the unimplemented slots, the prefix -/

/-- R550, R552, R553, R554: NOP, CPL, SCF, CCF. -/
def Obligations.NopAndFlagInstructions : Prop :=
  ∀ s : State,
    HasBytes .nop [0x00] ∧ Runs .nop s s 1 4 ∧
    HasBytes .cpl [0x2F] ∧
    Runs .cpl s { s with a := ~~~s.a, f := putZnhc s.f (getFlag s.f .z) true true (getFlag s.f .c) } 1 4 ∧
    HasBytes .scf [0x37] ∧ Runs .scf s { s with f := putZnhc s.f (getFlag s.f .z) false false true } 1 4 ∧
    HasBytes .ccf [0x3F] ∧
    Runs .ccf s { s with f := putZnhc s.f (getFlag s.f .z) false false (!getFlag s.f .c) } 1 4

/-- R551: DAA, for every input; N is not written. -/
def Obligations.DecimalAdjust : Prop :=
  ∀ s : State,
    let n := getFlag s.f .n
    let k := daaDigits s.a.toNat n (getFlag s.f .h) (getFlag s.f .c)
    let res := if n = true then s.a - BitVec.ofNat 8 k else s.a + BitVec.ofNat 8 k
    HasBytes .daa [0x27] ∧
    Runs .daa s { s with a := res, f := putZnhc s.f (decide (res = 0)) n false (decide (0x60 ≤ k)) } 1 4

/-- R555 to R558: HALT and STOP change run_state, after which every later step is idle, for any number of steps; DI and EI change the interrupt latches. -/
def Obligations.PowerAndInterruptInstructions : Prop :=
  ∀ (n : Byte) (s : State),
    HasBytes .halt [0x76] ∧ Runs .halt s { s with runState := .halted } 1 4 ∧
    HasBytes (.stop n) [0x10, n] ∧ Runs (.stop n) s { s with runState := .stopped } 2 4 ∧
    (∀ t, exec .halt s = .next t ∨ exec (.stop n) s = .next t →
      ∀ k, runFor k t = some { t with cycleCount := t.cycleCount + BitVec.ofNat 64 (4 * k) }) ∧
    HasBytes .di [0xF3] ∧ Runs .di s { s with ime := false, imePending := false } 1 4 ∧
    HasBytes .ei [0xFB] ∧ Runs .ei s { s with imePending := true } 1 4

/-- R559: each of the eleven unimplemented slots takes the fatal outcome; no prefixed slot is one of them. -/
def Obligations.UnimplementedSlotsTakeFatal : Prop :=
  (∀ p ∈ unimplementedSlots, ∀ s : State,
    HasBytes p.2 [p.1] ∧ exec p.2 s = .next { s with runState := .fatal, fatalOpcode := p.1, fatalPc := s.pc }) ∧
  ∀ n1 n2 : Byte, decodeBytes 0xCB n1 n2 ∉ unimplementedSlots.map Prod.snd

/-- The model's reading of the prefix marker (log 5, DEDUCED from R126 and R142): it completes in every state, doing what the slot that the next byte selects does; the decoder never gives it. -/
def Obligations.PrefixMarkerRunsSelectedSlot : Prop :=
  ∀ (s : State) (op n1 n2 : Byte),
    (∃ t, exec .prefixCb s = .next t ∧ exec (decodeBytes 0xCB (s.readByte (s.pc + 1)) 0) s = .next t) ∧
    decodeBytes op n1 n2 ≠ .prefixCb

/-! ## The decode table -/

/-- From R127, R128, R129 and opcode_table.json: each of the 512 slots but the marker's has one entry; an unimplemented one has no mnemonic, operand or cost (R125, R559), and any other has a mnemonic and two costs exactly where it is conditional, else one. -/
def Obligations.DecodeTableEntries : Prop :=
  (∀ k < 512, k ≠ 0xCB → ∃ i : Instr, i.wf = true ∧ i.row.slot = k) ∧
  ∀ i : Instr, i.wf = true →
    i.row.slot < 512 ∧ i.row.slot ≠ 0xCB ∧ (∀ j : Instr, j.wf = true → j.row.slot = i.row.slot → j.row = i.row) ∧
    (i ∈ unimplementedSlots.map Prod.snd → i.row.mnemonic = none ∧ i.row.operands = [] ∧ i.row.cycles = []) ∧
    (i ∉ unimplementedSlots.map Prod.snd →
      i.row.mnemonic.isSome = true ∧ (∀ n ∈ i.row.cycles, 0 < n) ∧
      ((∃ cc, HasCondition i cc) → i.row.cycles.length = 2) ∧
      ((¬ ∃ cc, HasCondition i cc) → i.row.cycles.length = 1))

/-- Mnemonic and operand descriptors of the entries, operation by operation (R128; the descriptors are read from the spelling of R130: log 14, DEDUCED). -/
def Obligations.DecodeTableOperands : Prop :=
  ∀ (d o : Operand8) (p : Pair) (q : StackPair) (op : AluOp) (src : AluSrc) (rot : RotOp) (b : Fin 8) (cc : Cond)
    (n : Byte) (w : Word),
    (¬ (d = .indHl ∧ o = .indHl) → Describes (mkLd d o) .ld [operand8Descriptor d, operand8Descriptor o]) ∧
    Describes (mkLdImm d n) .ld [operand8Descriptor d, .value .n8] ∧
    Describes (mkInc o) .inc [operand8Descriptor o] ∧ Describes (mkDec o) .dec [operand8Descriptor o] ∧
    Describes (mkLdPairImm p w) .ld [.value (.pair p), .value .n16] ∧
    Describes (mkAddHl p) .add [.value (.pair .hl), .value (.pair p)] ∧
    Describes (mkIncPair p) .inc [.value (.pair p)] ∧ Describes (mkDecPair p) .dec [.value (.pair p)] ∧
    Describes (mkPush q) .push [stackPairDescriptor q] ∧ Describes (mkPop q) .pop [stackPairDescriptor q] ∧
    Describes (mkAlu op src) (aluMnemonic op) [.value (.reg .a), aluSrcDescriptor src] ∧
    Describes (mkRot rot o) (rotMnemonic rot) [operand8Descriptor o] ∧
    Describes (mkBit b o) .bit [.value (.bit b), operand8Descriptor o] ∧
    Describes (mkRes b o) .res [.value (.bit b), operand8Descriptor o] ∧
    Describes (mkSet b o) .set [.value (.bit b), operand8Descriptor o] ∧
    Describes (mkJr cc n) .jr [.value (.cond cc), .value .e8] ∧ Describes (mkJp cc w) .jp [.value (.cond cc), .value .a16] ∧
    Describes (mkCall cc w) .call [.value (.cond cc), .value .a16] ∧ Describes (mkRet cc) .ret [.value (.cond cc)] ∧
    Describes (mkRst b) .rst [.value (.vector b)] ∧
    Describes .ldIndHlIncA .ld [.address (.pair .hl) .increment, .value (.reg .a)] ∧
    Describes .ldIndHlDecA .ld [.address (.pair .hl) .decrement, .value (.reg .a)] ∧
    Describes .ldAIndHlInc .ld [.value (.reg .a), .address (.pair .hl) .increment] ∧
    Describes .ldAIndHlDec .ld [.value (.reg .a), .address (.pair .hl) .decrement] ∧
    Describes .ldIndBcA .ld [.address (.pair .bc), .value (.reg .a)] ∧
    Describes .ldIndDeA .ld [.address (.pair .de), .value (.reg .a)] ∧
    Describes .ldAIndBc .ld [.value (.reg .a), .address (.pair .bc)] ∧
    Describes .ldAIndDe .ld [.value (.reg .a), .address (.pair .de)] ∧
    Describes (.ldIndA16A w) .ld [.address .a16, .value (.reg .a)] ∧
    Describes (.ldAIndA16 w) .ld [.value (.reg .a), .address .a16] ∧
    Describes (.ldhIndA8A n) .ldh [.address .a8, .value (.reg .a)] ∧
    Describes (.ldhAIndA8 n) .ldh [.value (.reg .a), .address .a8] ∧
    Describes .ldIndCA .ld [.address (.reg .c), .value (.reg .a)] ∧
    Describes .ldAIndC .ld [.value (.reg .a), .address (.reg .c)] ∧
    Describes (.ldIndA16Sp w) .ld [.address .a16, .value (.pair .sp)] ∧
    Describes .ldSpHl .ld [.value (.pair .sp), .value (.pair .hl)] ∧
    Describes (.addSpE8 n) .add [.value (.pair .sp), .value .e8] ∧
    Describes (.ldHlSpE8 n) .ld [.value (.pair .hl), .value .spE8] ∧
    Describes (.jpA16 w) .jp [.value .a16] ∧ Describes .jpHl .jp [.value (.pair .hl)] ∧
    Describes (.jrE8 n) .jr [.value .e8] ∧ Describes (.callA16 w) .call [.value .a16] ∧
    Describes .ret .ret [] ∧ Describes .reti .reti [] ∧ Describes (.stop n) .stop [.value .ignored]
end

