-- ==== Sys2Proof/Laws/Flags.lean ====
section
/-! SUPPORT. The laws of the flag accessors. -/

namespace Sys2Proof.Machine

/-- Writing one flag sets it and leaves the other three. -/
@[simp] theorem getFlag_putFlag (f : Byte) (x y : Flag) (v : Bool) :
    getFlag (putFlag f x v) y = if y = x then v else getFlag f y := by
  cases x <;> cases y <;> cases v <;> revert f <;> decide

/-- Writing a flag leaves F[3:0]. -/
@[simp] theorem lowNibble_putFlag (f : Byte) (x : Flag) (v : Bool) : putFlag f x v &&& 0x0F = f &&& 0x0F := by
  cases x <;> cases v <;> revert f <;> decide

@[simp] theorem lowNibble_putZnhc (f : Byte) (z n h c : Bool) : putZnhc f z n h c &&& 0x0F = f &&& 0x0F := by
  simp only [putZnhc, lowNibble_putFlag]

@[simp] theorem lowNibble_putZnh (f : Byte) (z n h : Bool) : putZnh f z n h &&& 0x0F = f &&& 0x0F := by
  simp only [putZnh, lowNibble_putFlag]

@[simp] theorem lowNibble_putNhc (f : Byte) (n h c : Bool) : putNhc f n h c &&& 0x0F = f &&& 0x0F := by
  simp only [putNhc, lowNibble_putFlag]

/-- The four flags after all four are written. -/
theorem getFlag_putZnhc (f : Byte) (z n h c : Bool) :
    getFlag (putZnhc f z n h c) .z = z ∧ getFlag (putZnhc f z n h c) .n = n ∧
      getFlag (putZnhc f z n h c) .h = h ∧ getFlag (putZnhc f z n h c) .c = c := by
  simp [putZnhc]

/-- Z, N and Hf after they are written, and Cy as before. -/
theorem getFlag_putZnh (f : Byte) (z n h : Bool) :
    getFlag (putZnh f z n h) .z = z ∧ getFlag (putZnh f z n h) .n = n ∧
      getFlag (putZnh f z n h) .h = h ∧ getFlag (putZnh f z n h) .c = getFlag f .c := by
  simp [putZnh]

/-- N, Hf and Cy after they are written, and Z as before. -/
theorem getFlag_putNhc (f : Byte) (n h c : Bool) :
    getFlag (putNhc f n h c) .z = getFlag f .z ∧ getFlag (putNhc f n h c) .n = n ∧
      getFlag (putNhc f n h c) .h = h ∧ getFlag (putNhc f n h c) .c = c := by
  simp [putNhc]

end Sys2Proof.Machine
end

