-- ==== Sys2Proof/Laws/Memory.lean ====
section
/-! SUPPORT. The laws of memory: read after write, and that every operation keeps the canonical form. -/

namespace Sys2Proof.Machine

theorem Memory.read_insert_self (m : Memory) (a : Nat) (v : Byte) (h : ∀ c ∈ m, c.1 ≠ a) :
    Memory.read (Memory.insert m a v) a = v := by
  induction m with
  | nil => simp [Memory.insert, Memory.read]
  | cons c rest ih =>
    obtain ⟨k, w⟩ := c
    have hk : k ≠ a := h (k, w) (by simp)
    have hrest := ih (fun c hc => h c (by simp [hc]))
    unfold Memory.insert
    split
    · simp [Memory.read]
    · simp [Memory.read, hk, hrest]

theorem Memory.read_insert_other (m : Memory) (a b : Nat) (v : Byte) (h : b ≠ a) :
    Memory.read (Memory.insert m a v) b = Memory.read m b := by
  induction m with
  | nil => simp [Memory.insert, Memory.read, Ne.symm h]
  | cons c rest ih =>
    obtain ⟨k, w⟩ := c
    unfold Memory.insert
    split
    · simp [Memory.read, Ne.symm h]
    · simp only [Memory.read, ih]

theorem Memory.erase_keys (m : Memory) (a : Nat) : ∀ c ∈ Memory.erase m a, c.1 ≠ a := by
  intro c hc
  have := (List.mem_filter.mp hc).2
  simpa using this

theorem Memory.read_unlisted (m : Memory) (a : Nat) (h : ∀ c ∈ m, c.1 ≠ a) :
    Memory.read m a = Config.unlisted := by
  induction m with
  | nil => rfl
  | cons c rest ih =>
    obtain ⟨k, w⟩ := c
    have hk : k ≠ a := h (k, w) (by simp)
    simp [Memory.read, hk, ih (fun c hc => h c (by simp [hc]))]

theorem Memory.read_erase_other (m : Memory) (a b : Nat) (h : b ≠ a) :
    Memory.read (Memory.erase m a) b = Memory.read m b := by
  induction m with
  | nil => rfl
  | cons c rest ih =>
    obtain ⟨k, w⟩ := c
    simp only [Memory.erase] at ih ⊢
    by_cases hk : k = a
    · subst hk
      simp [Memory.read, Ne.symm h, ih]
    · simp [Memory.read, hk, ih]

/-- One read after one write, whatever the memory. -/
theorem Memory.read_write (m : Memory) (a b : Nat) (v : Byte) :
    Memory.read (Memory.write m a v) b = if b = a then v else Memory.read m b := by
  have hkeys := Memory.erase_keys m a
  unfold Memory.write
  by_cases hb : b = a
  · subst hb
    by_cases hv : v = Config.unlisted
    · simp [hv, Memory.read_unlisted _ _ hkeys]
    · simp [hv, Memory.read_insert_self _ _ _ hkeys]
  · by_cases hv : v = Config.unlisted
    · simp [hv, hb, Memory.read_erase_other _ _ _ hb]
    · simp [hv, hb, Memory.read_insert_other _ _ _ _ hb, Memory.read_erase_other _ _ _ hb]

theorem Memory.rising_mono (m : Memory) (lo lo' : Nat) (h : Memory.rising lo m = true) (hl : lo' ≤ lo) :
    Memory.rising lo' m = true := by
  cases m with
  | nil => rfl
  | cons c rest =>
    simp only [Memory.rising, Bool.and_eq_true, decide_eq_true_eq] at h ⊢
    exact ⟨by omega, h.2⟩

theorem Memory.rising_keys (m : Memory) (lo : Nat) (h : Memory.rising lo m = true) : ∀ c ∈ m, lo ≤ c.1 := by
  induction m generalizing lo with
  | nil => simp
  | cons c rest ih =>
    simp only [Memory.rising, Bool.and_eq_true, decide_eq_true_eq] at h
    intro x hx
    rcases List.mem_cons.mp hx with rfl | hx
    · exact h.1
    · have := ih _ h.2 x hx
      omega

theorem Memory.rising_erase (m : Memory) (lo a : Nat) (h : Memory.rising lo m = true) :
    Memory.rising lo (Memory.erase m a) = true := by
  induction m generalizing lo with
  | nil => rfl
  | cons c rest ih =>
    simp only [Memory.rising, Bool.and_eq_true, decide_eq_true_eq] at h
    simp only [Memory.erase] at ih ⊢
    by_cases hk : c.1 = a
    · simp only [hk, bne_self_eq_false, Bool.false_eq_true, not_false_eq_true, List.filter_cons_of_neg]
      exact Memory.rising_mono _ _ _ (ih _ h.2) (by omega)
    · simp [hk, Memory.rising, h.1, ih _ h.2]

theorem Memory.rising_insert (m : Memory) (lo a : Nat) (v : Byte) (h : Memory.rising lo m = true) (hlo : lo ≤ a)
    (hkeys : ∀ c ∈ m, c.1 ≠ a) : Memory.rising lo (Memory.insert m a v) = true := by
  induction m generalizing lo with
  | nil => simp [Memory.insert, Memory.rising, hlo]
  | cons c rest ih =>
    obtain ⟨k, w⟩ := c
    have hk : k ≠ a := hkeys (k, w) (by simp)
    simp only [Memory.rising, Bool.and_eq_true, decide_eq_true_eq] at h
    unfold Memory.insert
    split
    · rename_i hak
      simp only [Memory.rising, Bool.and_eq_true, decide_eq_true_eq]
      exact ⟨hlo, by omega, h.2⟩
    · simp only [Memory.rising, Bool.and_eq_true, decide_eq_true_eq]
      exact ⟨h.1, ih _ h.2 (by omega) (fun c hc => hkeys c (by simp [hc]))⟩

theorem Memory.all_insert (m : Memory) (a : Nat) (v : Byte) (p : Host.Cell → Bool) :
    (Memory.insert m a v).all p = (p (a, v) && m.all p) := by
  induction m with
  | nil => rfl
  | cons c rest ih =>
    obtain ⟨k, w⟩ := c
    unfold Memory.insert
    split
    · rfl
    · simp [ih, Bool.and_left_comm]

theorem Memory.all_erase (m : Memory) (a : Nat) (p : Host.Cell → Bool) (h : m.all p = true) :
    (Memory.erase m a).all p = true := by
  rw [List.all_eq_true] at h ⊢
  exact fun c hc => h c (List.mem_filter.mp hc).1

/-- Every write keeps the canonical form. -/
theorem Memory.canonical_write (size : Nat) (m : Memory) (a : Nat) (v : Byte)
    (h : Memory.canonical size m = true) (ha : a < size) : Memory.canonical size (Memory.write m a v) = true := by
  simp only [Memory.canonical, Bool.and_eq_true] at h ⊢
  unfold Memory.write
  split
  · exact ⟨Memory.rising_erase _ _ _ h.1, Memory.all_erase _ _ _ h.2⟩
  · rename_i hv
    refine ⟨Memory.rising_insert _ _ _ _ (Memory.rising_erase _ _ _ h.1) (Nat.zero_le _) (Memory.erase_keys _ _), ?_⟩
    rw [Memory.all_insert, Memory.all_erase _ _ _ h.2]
    simp [ha, hv]

theorem Memory.wf_write (m : Memory) (a : Word) (v : Byte) (h : Memory.wf m = true) :
    Memory.wf (Memory.write m a.toNat v) = true :=
  Memory.canonical_write _ _ _ _ h a.isLt

theorem Memory.canonical_nil (size : Nat) : Memory.canonical size [] = true := rfl

theorem Memory.canonical_ofCells (size : Nat) (cells : List Host.Cell) :
    Memory.canonical size (Memory.ofCells size cells) = true := by
  unfold Memory.ofCells
  suffices h : ∀ m, Memory.canonical size m = true → Memory.canonical size
      (cells.foldl (fun m cell => if cell.1 < size then Memory.write m cell.1 cell.2 else m) m) = true from
    h [] rfl
  induction cells with
  | nil => exact fun m h => h
  | cons c rest ih =>
    intro m h
    simp only [List.foldl_cons]
    apply ih
    split
    · rename_i hc
      exact Memory.canonical_write _ _ _ _ h hc
    · exact h

theorem Memory.canonical_ofBytes (bytes : List Byte) (a size : Nat) (h : a + bytes.length ≤ size) :
    Memory.rising a (Memory.ofBytes a bytes) = true ∧
      (Memory.ofBytes a bytes).all (fun cell => decide (cell.1 < size) && cell.2 != Config.unlisted) = true := by
  induction bytes generalizing a with
  | nil => exact ⟨rfl, rfl⟩
  | cons v rest ih =>
    simp only [List.length_cons] at h
    have := ih (a + 1) (by omega)
    unfold Memory.ofBytes
    split
    · exact ⟨Memory.rising_mono _ _ _ this.1 (by omega), this.2⟩
    · rename_i hv
      refine ⟨by simp [Memory.rising, this.1], ?_⟩
      simp only [List.all_cons, this.2, Bool.and_true]
      simp [hv, show a < size by omega]

/-- Two canonical memories that read alike at every address are the same data. -/
theorem Memory.canonical_ext (size : Nat) (m m' : Memory) (h : Memory.canonical size m = true)
    (h' : Memory.canonical size m' = true) (hr : ∀ a, Memory.read m a = Memory.read m' a) : m = m' := by
  simp only [Memory.canonical, Bool.and_eq_true] at h h'
  suffices key : ∀ (n : Memory) (lo : Nat) (n' : Memory), Memory.rising lo n = true → Memory.rising lo n' = true →
      n.all (fun cell => decide (cell.1 < size) && cell.2 != Config.unlisted) = true →
      n'.all (fun cell => decide (cell.1 < size) && cell.2 != Config.unlisted) = true →
      (∀ a, Memory.read n a = Memory.read n' a) → n = n' from
    key m 0 m' h.1 h'.1 h.2 h'.2 hr
  intro n
  induction n with
  | nil =>
    intro lo n' _ _ _ ha' hr
    cases n' with
    | nil => rfl
    | cons c rest =>
      obtain ⟨k, w⟩ := c
      have := hr k
      simp only [Memory.read, if_true] at this
      simp [this] at ha'
  | cons c rest ih =>
    obtain ⟨k, w⟩ := c
    intro lo n' hn hn' ha ha' hr
    simp only [Memory.rising, Bool.and_eq_true, decide_eq_true_eq] at hn
    simp only [List.all_cons, Bool.and_eq_true, decide_eq_true_eq, bne_iff_ne, ne_eq] at ha
    cases n' with
    | nil =>
      have := hr k
      simp only [Memory.read, if_true] at this
      exact absurd this ha.1.2
    | cons c' rest' =>
      obtain ⟨k', w'⟩ := c'
      simp only [Memory.rising, Bool.and_eq_true, decide_eq_true_eq] at hn'
      simp only [List.all_cons, Bool.and_eq_true, decide_eq_true_eq, bne_iff_ne, ne_eq] at ha'
      have away : ∀ (m : Memory) (x y : Nat), Memory.rising (x + 1) m = true → y ≤ x →
          Memory.read m y = Config.unlisted := fun m x y hm hy =>
        Memory.read_unlisted m y (fun c hc => by have := Memory.rising_keys m _ hm c hc; omega)
      have hk : k = k' := by
        rcases Nat.lt_trichotomy k k' with hlt | heq | hgt
        · have := hr k
          simp only [Memory.read, if_true] at this
          rw [if_neg (by omega), away rest' k' k hn'.2 (by omega)] at this
          exact absurd this ha.1.2
        · exact heq
        · have := hr k'
          simp only [Memory.read, if_true] at this
          rw [if_neg (by omega), away rest k k' hn.2 (by omega)] at this
          exact absurd this.symm ha'.1.2
      subst hk
      have hw : w = w' := by simpa [Memory.read] using hr k
      subst hw
      congr 1
      refine ih (k + 1) rest' hn.2 hn'.2 ha.2 ha'.2 (fun a => ?_)
      by_cases hak : k = a
      · subst hak
        rw [away rest k k hn.2 (Nat.le_refl _), away rest' k k hn'.2 (Nat.le_refl _)]
      · simpa [Memory.read, hak] using hr a

end Sys2Proof.Machine
end

