-- ==== Sys2Proof/Laws/State.lean ====
section
/-! SUPPORT. One lemma for each field and each update of the state, and reading a register after writing one. -/

namespace Sys2Proof.Machine

/-! ### setReg -/

@[simp] theorem State.setReg_f (s : State) (r : Reg8) (v : Byte) : (s.setReg r v).f = s.f := by cases r <;> rfl
@[simp] theorem State.setReg_pc (s : State) (r : Reg8) (v : Byte) : (s.setReg r v).pc = s.pc := by cases r <;> rfl
@[simp] theorem State.setReg_sp (s : State) (r : Reg8) (v : Byte) : (s.setReg r v).sp = s.sp := by cases r <;> rfl
@[simp] theorem State.setReg_runState (s : State) (r : Reg8) (v : Byte) : (s.setReg r v).runState = s.runState := by cases r <;> rfl
@[simp] theorem State.setReg_ime (s : State) (r : Reg8) (v : Byte) : (s.setReg r v).ime = s.ime := by cases r <;> rfl
@[simp] theorem State.setReg_imePending (s : State) (r : Reg8) (v : Byte) : (s.setReg r v).imePending = s.imePending := by cases r <;> rfl
@[simp] theorem State.setReg_overlayActive (s : State) (r : Reg8) (v : Byte) : (s.setReg r v).overlayActive = s.overlayActive := by cases r <;> rfl
@[simp] theorem State.setReg_cycleCount (s : State) (r : Reg8) (v : Byte) : (s.setReg r v).cycleCount = s.cycleCount := by cases r <;> rfl
@[simp] theorem State.setReg_fatalOpcode (s : State) (r : Reg8) (v : Byte) : (s.setReg r v).fatalOpcode = s.fatalOpcode := by cases r <;> rfl
@[simp] theorem State.setReg_fatalPc (s : State) (r : Reg8) (v : Byte) : (s.setReg r v).fatalPc = s.fatalPc := by cases r <;> rfl
@[simp] theorem State.setReg_main (s : State) (r : Reg8) (v : Byte) : (s.setReg r v).main = s.main := by cases r <;> rfl
@[simp] theorem State.setReg_boot (s : State) (r : Reg8) (v : Byte) : (s.setReg r v).boot = s.boot := by cases r <;> rfl

/-! ### setBc -/

@[simp] theorem State.setBc_a (s : State) (v : Word) : (s.setBc v).a = s.a := rfl
@[simp] theorem State.setBc_f (s : State) (v : Word) : (s.setBc v).f = s.f := rfl
@[simp] theorem State.setBc_b (s : State) (v : Word) : (s.setBc v).b = highByte v := rfl
@[simp] theorem State.setBc_c (s : State) (v : Word) : (s.setBc v).c = lowByte v := rfl
@[simp] theorem State.setBc_d (s : State) (v : Word) : (s.setBc v).d = s.d := rfl
@[simp] theorem State.setBc_e (s : State) (v : Word) : (s.setBc v).e = s.e := rfl
@[simp] theorem State.setBc_h (s : State) (v : Word) : (s.setBc v).h = s.h := rfl
@[simp] theorem State.setBc_l (s : State) (v : Word) : (s.setBc v).l = s.l := rfl
@[simp] theorem State.setBc_pc (s : State) (v : Word) : (s.setBc v).pc = s.pc := rfl
@[simp] theorem State.setBc_sp (s : State) (v : Word) : (s.setBc v).sp = s.sp := rfl
@[simp] theorem State.setBc_runState (s : State) (v : Word) : (s.setBc v).runState = s.runState := rfl
@[simp] theorem State.setBc_ime (s : State) (v : Word) : (s.setBc v).ime = s.ime := rfl
@[simp] theorem State.setBc_imePending (s : State) (v : Word) : (s.setBc v).imePending = s.imePending := rfl
@[simp] theorem State.setBc_overlayActive (s : State) (v : Word) : (s.setBc v).overlayActive = s.overlayActive := rfl
@[simp] theorem State.setBc_cycleCount (s : State) (v : Word) : (s.setBc v).cycleCount = s.cycleCount := rfl
@[simp] theorem State.setBc_fatalOpcode (s : State) (v : Word) : (s.setBc v).fatalOpcode = s.fatalOpcode := rfl
@[simp] theorem State.setBc_fatalPc (s : State) (v : Word) : (s.setBc v).fatalPc = s.fatalPc := rfl
@[simp] theorem State.setBc_main (s : State) (v : Word) : (s.setBc v).main = s.main := rfl
@[simp] theorem State.setBc_boot (s : State) (v : Word) : (s.setBc v).boot = s.boot := rfl

/-! ### setDe -/

@[simp] theorem State.setDe_a (s : State) (v : Word) : (s.setDe v).a = s.a := rfl
@[simp] theorem State.setDe_f (s : State) (v : Word) : (s.setDe v).f = s.f := rfl
@[simp] theorem State.setDe_b (s : State) (v : Word) : (s.setDe v).b = s.b := rfl
@[simp] theorem State.setDe_c (s : State) (v : Word) : (s.setDe v).c = s.c := rfl
@[simp] theorem State.setDe_d (s : State) (v : Word) : (s.setDe v).d = highByte v := rfl
@[simp] theorem State.setDe_e (s : State) (v : Word) : (s.setDe v).e = lowByte v := rfl
@[simp] theorem State.setDe_h (s : State) (v : Word) : (s.setDe v).h = s.h := rfl
@[simp] theorem State.setDe_l (s : State) (v : Word) : (s.setDe v).l = s.l := rfl
@[simp] theorem State.setDe_pc (s : State) (v : Word) : (s.setDe v).pc = s.pc := rfl
@[simp] theorem State.setDe_sp (s : State) (v : Word) : (s.setDe v).sp = s.sp := rfl
@[simp] theorem State.setDe_runState (s : State) (v : Word) : (s.setDe v).runState = s.runState := rfl
@[simp] theorem State.setDe_ime (s : State) (v : Word) : (s.setDe v).ime = s.ime := rfl
@[simp] theorem State.setDe_imePending (s : State) (v : Word) : (s.setDe v).imePending = s.imePending := rfl
@[simp] theorem State.setDe_overlayActive (s : State) (v : Word) : (s.setDe v).overlayActive = s.overlayActive := rfl
@[simp] theorem State.setDe_cycleCount (s : State) (v : Word) : (s.setDe v).cycleCount = s.cycleCount := rfl
@[simp] theorem State.setDe_fatalOpcode (s : State) (v : Word) : (s.setDe v).fatalOpcode = s.fatalOpcode := rfl
@[simp] theorem State.setDe_fatalPc (s : State) (v : Word) : (s.setDe v).fatalPc = s.fatalPc := rfl
@[simp] theorem State.setDe_main (s : State) (v : Word) : (s.setDe v).main = s.main := rfl
@[simp] theorem State.setDe_boot (s : State) (v : Word) : (s.setDe v).boot = s.boot := rfl

/-! ### setHl -/

@[simp] theorem State.setHl_a (s : State) (v : Word) : (s.setHl v).a = s.a := rfl
@[simp] theorem State.setHl_f (s : State) (v : Word) : (s.setHl v).f = s.f := rfl
@[simp] theorem State.setHl_b (s : State) (v : Word) : (s.setHl v).b = s.b := rfl
@[simp] theorem State.setHl_c (s : State) (v : Word) : (s.setHl v).c = s.c := rfl
@[simp] theorem State.setHl_d (s : State) (v : Word) : (s.setHl v).d = s.d := rfl
@[simp] theorem State.setHl_e (s : State) (v : Word) : (s.setHl v).e = s.e := rfl
@[simp] theorem State.setHl_h (s : State) (v : Word) : (s.setHl v).h = highByte v := rfl
@[simp] theorem State.setHl_l (s : State) (v : Word) : (s.setHl v).l = lowByte v := rfl
@[simp] theorem State.setHl_pc (s : State) (v : Word) : (s.setHl v).pc = s.pc := rfl
@[simp] theorem State.setHl_sp (s : State) (v : Word) : (s.setHl v).sp = s.sp := rfl
@[simp] theorem State.setHl_runState (s : State) (v : Word) : (s.setHl v).runState = s.runState := rfl
@[simp] theorem State.setHl_ime (s : State) (v : Word) : (s.setHl v).ime = s.ime := rfl
@[simp] theorem State.setHl_imePending (s : State) (v : Word) : (s.setHl v).imePending = s.imePending := rfl
@[simp] theorem State.setHl_overlayActive (s : State) (v : Word) : (s.setHl v).overlayActive = s.overlayActive := rfl
@[simp] theorem State.setHl_cycleCount (s : State) (v : Word) : (s.setHl v).cycleCount = s.cycleCount := rfl
@[simp] theorem State.setHl_fatalOpcode (s : State) (v : Word) : (s.setHl v).fatalOpcode = s.fatalOpcode := rfl
@[simp] theorem State.setHl_fatalPc (s : State) (v : Word) : (s.setHl v).fatalPc = s.fatalPc := rfl
@[simp] theorem State.setHl_main (s : State) (v : Word) : (s.setHl v).main = s.main := rfl
@[simp] theorem State.setHl_boot (s : State) (v : Word) : (s.setHl v).boot = s.boot := rfl

/-! ### setAf -/

@[simp] theorem State.setAf_a (s : State) (v : Word) : (s.setAf v).a = highByte v := rfl
@[simp] theorem State.setAf_f (s : State) (v : Word) : (s.setAf v).f = lowByte v &&& 0xF0 := rfl
@[simp] theorem State.setAf_b (s : State) (v : Word) : (s.setAf v).b = s.b := rfl
@[simp] theorem State.setAf_c (s : State) (v : Word) : (s.setAf v).c = s.c := rfl
@[simp] theorem State.setAf_d (s : State) (v : Word) : (s.setAf v).d = s.d := rfl
@[simp] theorem State.setAf_e (s : State) (v : Word) : (s.setAf v).e = s.e := rfl
@[simp] theorem State.setAf_h (s : State) (v : Word) : (s.setAf v).h = s.h := rfl
@[simp] theorem State.setAf_l (s : State) (v : Word) : (s.setAf v).l = s.l := rfl
@[simp] theorem State.setAf_pc (s : State) (v : Word) : (s.setAf v).pc = s.pc := rfl
@[simp] theorem State.setAf_sp (s : State) (v : Word) : (s.setAf v).sp = s.sp := rfl
@[simp] theorem State.setAf_runState (s : State) (v : Word) : (s.setAf v).runState = s.runState := rfl
@[simp] theorem State.setAf_ime (s : State) (v : Word) : (s.setAf v).ime = s.ime := rfl
@[simp] theorem State.setAf_imePending (s : State) (v : Word) : (s.setAf v).imePending = s.imePending := rfl
@[simp] theorem State.setAf_overlayActive (s : State) (v : Word) : (s.setAf v).overlayActive = s.overlayActive := rfl
@[simp] theorem State.setAf_cycleCount (s : State) (v : Word) : (s.setAf v).cycleCount = s.cycleCount := rfl
@[simp] theorem State.setAf_fatalOpcode (s : State) (v : Word) : (s.setAf v).fatalOpcode = s.fatalOpcode := rfl
@[simp] theorem State.setAf_fatalPc (s : State) (v : Word) : (s.setAf v).fatalPc = s.fatalPc := rfl
@[simp] theorem State.setAf_main (s : State) (v : Word) : (s.setAf v).main = s.main := rfl
@[simp] theorem State.setAf_boot (s : State) (v : Word) : (s.setAf v).boot = s.boot := rfl

/-! ### setPair -/

@[simp] theorem State.setPair_a (s : State) (p : Pair) (v : Word) : (s.setPair p v).a = s.a := by cases p <;> rfl
@[simp] theorem State.setPair_f (s : State) (p : Pair) (v : Word) : (s.setPair p v).f = s.f := by cases p <;> rfl
@[simp] theorem State.setPair_pc (s : State) (p : Pair) (v : Word) : (s.setPair p v).pc = s.pc := by cases p <;> rfl
@[simp] theorem State.setPair_runState (s : State) (p : Pair) (v : Word) : (s.setPair p v).runState = s.runState := by cases p <;> rfl
@[simp] theorem State.setPair_ime (s : State) (p : Pair) (v : Word) : (s.setPair p v).ime = s.ime := by cases p <;> rfl
@[simp] theorem State.setPair_imePending (s : State) (p : Pair) (v : Word) : (s.setPair p v).imePending = s.imePending := by cases p <;> rfl
@[simp] theorem State.setPair_overlayActive (s : State) (p : Pair) (v : Word) : (s.setPair p v).overlayActive = s.overlayActive := by cases p <;> rfl
@[simp] theorem State.setPair_cycleCount (s : State) (p : Pair) (v : Word) : (s.setPair p v).cycleCount = s.cycleCount := by cases p <;> rfl
@[simp] theorem State.setPair_fatalOpcode (s : State) (p : Pair) (v : Word) : (s.setPair p v).fatalOpcode = s.fatalOpcode := by cases p <;> rfl
@[simp] theorem State.setPair_fatalPc (s : State) (p : Pair) (v : Word) : (s.setPair p v).fatalPc = s.fatalPc := by cases p <;> rfl
@[simp] theorem State.setPair_main (s : State) (p : Pair) (v : Word) : (s.setPair p v).main = s.main := by cases p <;> rfl
@[simp] theorem State.setPair_boot (s : State) (p : Pair) (v : Word) : (s.setPair p v).boot = s.boot := by cases p <;> rfl

/-! ### setStackPair -/

@[simp] theorem State.setStackPair_pc (s : State) (q : StackPair) (v : Word) : (s.setStackPair q v).pc = s.pc := by cases q <;> rfl
@[simp] theorem State.setStackPair_sp (s : State) (q : StackPair) (v : Word) : (s.setStackPair q v).sp = s.sp := by cases q <;> rfl
@[simp] theorem State.setStackPair_runState (s : State) (q : StackPair) (v : Word) : (s.setStackPair q v).runState = s.runState := by cases q <;> rfl
@[simp] theorem State.setStackPair_ime (s : State) (q : StackPair) (v : Word) : (s.setStackPair q v).ime = s.ime := by cases q <;> rfl
@[simp] theorem State.setStackPair_imePending (s : State) (q : StackPair) (v : Word) : (s.setStackPair q v).imePending = s.imePending := by cases q <;> rfl
@[simp] theorem State.setStackPair_overlayActive (s : State) (q : StackPair) (v : Word) : (s.setStackPair q v).overlayActive = s.overlayActive := by cases q <;> rfl
@[simp] theorem State.setStackPair_cycleCount (s : State) (q : StackPair) (v : Word) : (s.setStackPair q v).cycleCount = s.cycleCount := by cases q <;> rfl
@[simp] theorem State.setStackPair_fatalOpcode (s : State) (q : StackPair) (v : Word) : (s.setStackPair q v).fatalOpcode = s.fatalOpcode := by cases q <;> rfl
@[simp] theorem State.setStackPair_fatalPc (s : State) (q : StackPair) (v : Word) : (s.setStackPair q v).fatalPc = s.fatalPc := by cases q <;> rfl
@[simp] theorem State.setStackPair_main (s : State) (q : StackPair) (v : Word) : (s.setStackPair q v).main = s.main := by cases q <;> rfl
@[simp] theorem State.setStackPair_boot (s : State) (q : StackPair) (v : Word) : (s.setStackPair q v).boot = s.boot := by cases q <;> rfl

/-! ### setZnhc -/

@[simp] theorem State.setZnhc_a (s : State) (z n h c : Bool) : (s.setZnhc z n h c).a = s.a := rfl
@[simp] theorem State.setZnhc_f (s : State) (z n h c : Bool) : (s.setZnhc z n h c).f = putZnhc s.f z n h c := rfl
@[simp] theorem State.setZnhc_b (s : State) (z n h c : Bool) : (s.setZnhc z n h c).b = s.b := rfl
@[simp] theorem State.setZnhc_c (s : State) (z n h c : Bool) : (s.setZnhc z n h c).c = s.c := rfl
@[simp] theorem State.setZnhc_d (s : State) (z n h c : Bool) : (s.setZnhc z n h c).d = s.d := rfl
@[simp] theorem State.setZnhc_e (s : State) (z n h c : Bool) : (s.setZnhc z n h c).e = s.e := rfl
@[simp] theorem State.setZnhc_h (s : State) (z n h c : Bool) : (s.setZnhc z n h c).h = s.h := rfl
@[simp] theorem State.setZnhc_l (s : State) (z n h c : Bool) : (s.setZnhc z n h c).l = s.l := rfl
@[simp] theorem State.setZnhc_pc (s : State) (z n h c : Bool) : (s.setZnhc z n h c).pc = s.pc := rfl
@[simp] theorem State.setZnhc_sp (s : State) (z n h c : Bool) : (s.setZnhc z n h c).sp = s.sp := rfl
@[simp] theorem State.setZnhc_runState (s : State) (z n h c : Bool) : (s.setZnhc z n h c).runState = s.runState := rfl
@[simp] theorem State.setZnhc_ime (s : State) (z n h c : Bool) : (s.setZnhc z n h c).ime = s.ime := rfl
@[simp] theorem State.setZnhc_imePending (s : State) (z n h c : Bool) : (s.setZnhc z n h c).imePending = s.imePending := rfl
@[simp] theorem State.setZnhc_overlayActive (s : State) (z n h c : Bool) : (s.setZnhc z n h c).overlayActive = s.overlayActive := rfl
@[simp] theorem State.setZnhc_cycleCount (s : State) (z n h c : Bool) : (s.setZnhc z n h c).cycleCount = s.cycleCount := rfl
@[simp] theorem State.setZnhc_fatalOpcode (s : State) (z n h c : Bool) : (s.setZnhc z n h c).fatalOpcode = s.fatalOpcode := rfl
@[simp] theorem State.setZnhc_fatalPc (s : State) (z n h c : Bool) : (s.setZnhc z n h c).fatalPc = s.fatalPc := rfl
@[simp] theorem State.setZnhc_main (s : State) (z n h c : Bool) : (s.setZnhc z n h c).main = s.main := rfl
@[simp] theorem State.setZnhc_boot (s : State) (z n h c : Bool) : (s.setZnhc z n h c).boot = s.boot := rfl

/-! ### setZnh -/

@[simp] theorem State.setZnh_a (s : State) (z n h : Bool) : (s.setZnh z n h).a = s.a := rfl
@[simp] theorem State.setZnh_f (s : State) (z n h : Bool) : (s.setZnh z n h).f = putZnh s.f z n h := rfl
@[simp] theorem State.setZnh_b (s : State) (z n h : Bool) : (s.setZnh z n h).b = s.b := rfl
@[simp] theorem State.setZnh_c (s : State) (z n h : Bool) : (s.setZnh z n h).c = s.c := rfl
@[simp] theorem State.setZnh_d (s : State) (z n h : Bool) : (s.setZnh z n h).d = s.d := rfl
@[simp] theorem State.setZnh_e (s : State) (z n h : Bool) : (s.setZnh z n h).e = s.e := rfl
@[simp] theorem State.setZnh_h (s : State) (z n h : Bool) : (s.setZnh z n h).h = s.h := rfl
@[simp] theorem State.setZnh_l (s : State) (z n h : Bool) : (s.setZnh z n h).l = s.l := rfl
@[simp] theorem State.setZnh_pc (s : State) (z n h : Bool) : (s.setZnh z n h).pc = s.pc := rfl
@[simp] theorem State.setZnh_sp (s : State) (z n h : Bool) : (s.setZnh z n h).sp = s.sp := rfl
@[simp] theorem State.setZnh_runState (s : State) (z n h : Bool) : (s.setZnh z n h).runState = s.runState := rfl
@[simp] theorem State.setZnh_ime (s : State) (z n h : Bool) : (s.setZnh z n h).ime = s.ime := rfl
@[simp] theorem State.setZnh_imePending (s : State) (z n h : Bool) : (s.setZnh z n h).imePending = s.imePending := rfl
@[simp] theorem State.setZnh_overlayActive (s : State) (z n h : Bool) : (s.setZnh z n h).overlayActive = s.overlayActive := rfl
@[simp] theorem State.setZnh_cycleCount (s : State) (z n h : Bool) : (s.setZnh z n h).cycleCount = s.cycleCount := rfl
@[simp] theorem State.setZnh_fatalOpcode (s : State) (z n h : Bool) : (s.setZnh z n h).fatalOpcode = s.fatalOpcode := rfl
@[simp] theorem State.setZnh_fatalPc (s : State) (z n h : Bool) : (s.setZnh z n h).fatalPc = s.fatalPc := rfl
@[simp] theorem State.setZnh_main (s : State) (z n h : Bool) : (s.setZnh z n h).main = s.main := rfl
@[simp] theorem State.setZnh_boot (s : State) (z n h : Bool) : (s.setZnh z n h).boot = s.boot := rfl

/-! ### setNhc -/

@[simp] theorem State.setNhc_a (s : State) (n h c : Bool) : (s.setNhc n h c).a = s.a := rfl
@[simp] theorem State.setNhc_f (s : State) (n h c : Bool) : (s.setNhc n h c).f = putNhc s.f n h c := rfl
@[simp] theorem State.setNhc_b (s : State) (n h c : Bool) : (s.setNhc n h c).b = s.b := rfl
@[simp] theorem State.setNhc_c (s : State) (n h c : Bool) : (s.setNhc n h c).c = s.c := rfl
@[simp] theorem State.setNhc_d (s : State) (n h c : Bool) : (s.setNhc n h c).d = s.d := rfl
@[simp] theorem State.setNhc_e (s : State) (n h c : Bool) : (s.setNhc n h c).e = s.e := rfl
@[simp] theorem State.setNhc_h (s : State) (n h c : Bool) : (s.setNhc n h c).h = s.h := rfl
@[simp] theorem State.setNhc_l (s : State) (n h c : Bool) : (s.setNhc n h c).l = s.l := rfl
@[simp] theorem State.setNhc_pc (s : State) (n h c : Bool) : (s.setNhc n h c).pc = s.pc := rfl
@[simp] theorem State.setNhc_sp (s : State) (n h c : Bool) : (s.setNhc n h c).sp = s.sp := rfl
@[simp] theorem State.setNhc_runState (s : State) (n h c : Bool) : (s.setNhc n h c).runState = s.runState := rfl
@[simp] theorem State.setNhc_ime (s : State) (n h c : Bool) : (s.setNhc n h c).ime = s.ime := rfl
@[simp] theorem State.setNhc_imePending (s : State) (n h c : Bool) : (s.setNhc n h c).imePending = s.imePending := rfl
@[simp] theorem State.setNhc_overlayActive (s : State) (n h c : Bool) : (s.setNhc n h c).overlayActive = s.overlayActive := rfl
@[simp] theorem State.setNhc_cycleCount (s : State) (n h c : Bool) : (s.setNhc n h c).cycleCount = s.cycleCount := rfl
@[simp] theorem State.setNhc_fatalOpcode (s : State) (n h c : Bool) : (s.setNhc n h c).fatalOpcode = s.fatalOpcode := rfl
@[simp] theorem State.setNhc_fatalPc (s : State) (n h c : Bool) : (s.setNhc n h c).fatalPc = s.fatalPc := rfl
@[simp] theorem State.setNhc_main (s : State) (n h c : Bool) : (s.setNhc n h c).main = s.main := rfl
@[simp] theorem State.setNhc_boot (s : State) (n h c : Bool) : (s.setNhc n h c).boot = s.boot := rfl

/-! ### writeByte -/

@[simp] theorem State.writeByte_a (s : State) (x : Word) (v : Byte) : (s.writeByte x v).a = s.a := rfl
@[simp] theorem State.writeByte_f (s : State) (x : Word) (v : Byte) : (s.writeByte x v).f = s.f := rfl
@[simp] theorem State.writeByte_b (s : State) (x : Word) (v : Byte) : (s.writeByte x v).b = s.b := rfl
@[simp] theorem State.writeByte_c (s : State) (x : Word) (v : Byte) : (s.writeByte x v).c = s.c := rfl
@[simp] theorem State.writeByte_d (s : State) (x : Word) (v : Byte) : (s.writeByte x v).d = s.d := rfl
@[simp] theorem State.writeByte_e (s : State) (x : Word) (v : Byte) : (s.writeByte x v).e = s.e := rfl
@[simp] theorem State.writeByte_h (s : State) (x : Word) (v : Byte) : (s.writeByte x v).h = s.h := rfl
@[simp] theorem State.writeByte_l (s : State) (x : Word) (v : Byte) : (s.writeByte x v).l = s.l := rfl
@[simp] theorem State.writeByte_pc (s : State) (x : Word) (v : Byte) : (s.writeByte x v).pc = s.pc := rfl
@[simp] theorem State.writeByte_sp (s : State) (x : Word) (v : Byte) : (s.writeByte x v).sp = s.sp := rfl
@[simp] theorem State.writeByte_runState (s : State) (x : Word) (v : Byte) : (s.writeByte x v).runState = s.runState := rfl
@[simp] theorem State.writeByte_ime (s : State) (x : Word) (v : Byte) : (s.writeByte x v).ime = s.ime := rfl
@[simp] theorem State.writeByte_imePending (s : State) (x : Word) (v : Byte) : (s.writeByte x v).imePending = s.imePending := rfl
@[simp] theorem State.writeByte_overlayActive (s : State) (x : Word) (v : Byte) : (s.writeByte x v).overlayActive = (s.overlayActive && !(x == Config.overlayDisableAddr && v.getLsbD 0)) := rfl
@[simp] theorem State.writeByte_cycleCount (s : State) (x : Word) (v : Byte) : (s.writeByte x v).cycleCount = s.cycleCount := rfl
@[simp] theorem State.writeByte_fatalOpcode (s : State) (x : Word) (v : Byte) : (s.writeByte x v).fatalOpcode = s.fatalOpcode := rfl
@[simp] theorem State.writeByte_fatalPc (s : State) (x : Word) (v : Byte) : (s.writeByte x v).fatalPc = s.fatalPc := rfl
@[simp] theorem State.writeByte_main (s : State) (x : Word) (v : Byte) : (s.writeByte x v).main = Memory.write s.main x.toNat v := rfl
@[simp] theorem State.writeByte_boot (s : State) (x : Word) (v : Byte) : (s.writeByte x v).boot = s.boot := rfl

/-! ### writeWord -/

@[simp] theorem State.writeWord_a (s : State) (x v : Word) : (s.writeWord x v).a = s.a := rfl
@[simp] theorem State.writeWord_f (s : State) (x v : Word) : (s.writeWord x v).f = s.f := rfl
@[simp] theorem State.writeWord_b (s : State) (x v : Word) : (s.writeWord x v).b = s.b := rfl
@[simp] theorem State.writeWord_c (s : State) (x v : Word) : (s.writeWord x v).c = s.c := rfl
@[simp] theorem State.writeWord_d (s : State) (x v : Word) : (s.writeWord x v).d = s.d := rfl
@[simp] theorem State.writeWord_e (s : State) (x v : Word) : (s.writeWord x v).e = s.e := rfl
@[simp] theorem State.writeWord_h (s : State) (x v : Word) : (s.writeWord x v).h = s.h := rfl
@[simp] theorem State.writeWord_l (s : State) (x v : Word) : (s.writeWord x v).l = s.l := rfl
@[simp] theorem State.writeWord_pc (s : State) (x v : Word) : (s.writeWord x v).pc = s.pc := rfl
@[simp] theorem State.writeWord_sp (s : State) (x v : Word) : (s.writeWord x v).sp = s.sp := rfl
@[simp] theorem State.writeWord_runState (s : State) (x v : Word) : (s.writeWord x v).runState = s.runState := rfl
@[simp] theorem State.writeWord_ime (s : State) (x v : Word) : (s.writeWord x v).ime = s.ime := rfl
@[simp] theorem State.writeWord_imePending (s : State) (x v : Word) : (s.writeWord x v).imePending = s.imePending := rfl
@[simp] theorem State.writeWord_cycleCount (s : State) (x v : Word) : (s.writeWord x v).cycleCount = s.cycleCount := rfl
@[simp] theorem State.writeWord_fatalOpcode (s : State) (x v : Word) : (s.writeWord x v).fatalOpcode = s.fatalOpcode := rfl
@[simp] theorem State.writeWord_fatalPc (s : State) (x v : Word) : (s.writeWord x v).fatalPc = s.fatalPc := rfl
@[simp] theorem State.writeWord_boot (s : State) (x v : Word) : (s.writeWord x v).boot = s.boot := rfl

/-! ### push16 -/

@[simp] theorem State.push16_a (s : State) (v : Word) : (s.push16 v).a = s.a := rfl
@[simp] theorem State.push16_f (s : State) (v : Word) : (s.push16 v).f = s.f := rfl
@[simp] theorem State.push16_b (s : State) (v : Word) : (s.push16 v).b = s.b := rfl
@[simp] theorem State.push16_c (s : State) (v : Word) : (s.push16 v).c = s.c := rfl
@[simp] theorem State.push16_d (s : State) (v : Word) : (s.push16 v).d = s.d := rfl
@[simp] theorem State.push16_e (s : State) (v : Word) : (s.push16 v).e = s.e := rfl
@[simp] theorem State.push16_h (s : State) (v : Word) : (s.push16 v).h = s.h := rfl
@[simp] theorem State.push16_l (s : State) (v : Word) : (s.push16 v).l = s.l := rfl
@[simp] theorem State.push16_pc (s : State) (v : Word) : (s.push16 v).pc = s.pc := rfl
@[simp] theorem State.push16_sp (s : State) (v : Word) : (s.push16 v).sp = s.sp - 1 - 1 := rfl
@[simp] theorem State.push16_runState (s : State) (v : Word) : (s.push16 v).runState = s.runState := rfl
@[simp] theorem State.push16_ime (s : State) (v : Word) : (s.push16 v).ime = s.ime := rfl
@[simp] theorem State.push16_imePending (s : State) (v : Word) : (s.push16 v).imePending = s.imePending := rfl
@[simp] theorem State.push16_cycleCount (s : State) (v : Word) : (s.push16 v).cycleCount = s.cycleCount := rfl
@[simp] theorem State.push16_fatalOpcode (s : State) (v : Word) : (s.push16 v).fatalOpcode = s.fatalOpcode := rfl
@[simp] theorem State.push16_fatalPc (s : State) (v : Word) : (s.push16 v).fatalPc = s.fatalPc := rfl
@[simp] theorem State.push16_boot (s : State) (v : Word) : (s.push16 v).boot = s.boot := rfl

/-! ### popped -/

@[simp] theorem State.popped_a (s : State) : (s.popped).a = s.a := rfl
@[simp] theorem State.popped_f (s : State) : (s.popped).f = s.f := rfl
@[simp] theorem State.popped_b (s : State) : (s.popped).b = s.b := rfl
@[simp] theorem State.popped_c (s : State) : (s.popped).c = s.c := rfl
@[simp] theorem State.popped_d (s : State) : (s.popped).d = s.d := rfl
@[simp] theorem State.popped_e (s : State) : (s.popped).e = s.e := rfl
@[simp] theorem State.popped_h (s : State) : (s.popped).h = s.h := rfl
@[simp] theorem State.popped_l (s : State) : (s.popped).l = s.l := rfl
@[simp] theorem State.popped_pc (s : State) : (s.popped).pc = s.pc := rfl
@[simp] theorem State.popped_sp (s : State) : (s.popped).sp = s.sp + 2 := rfl
@[simp] theorem State.popped_runState (s : State) : (s.popped).runState = s.runState := rfl
@[simp] theorem State.popped_ime (s : State) : (s.popped).ime = s.ime := rfl
@[simp] theorem State.popped_imePending (s : State) : (s.popped).imePending = s.imePending := rfl
@[simp] theorem State.popped_overlayActive (s : State) : (s.popped).overlayActive = s.overlayActive := rfl
@[simp] theorem State.popped_cycleCount (s : State) : (s.popped).cycleCount = s.cycleCount := rfl
@[simp] theorem State.popped_fatalOpcode (s : State) : (s.popped).fatalOpcode = s.fatalOpcode := rfl
@[simp] theorem State.popped_fatalPc (s : State) : (s.popped).fatalPc = s.fatalPc := rfl
@[simp] theorem State.popped_main (s : State) : (s.popped).main = s.main := rfl
@[simp] theorem State.popped_boot (s : State) : (s.popped).boot = s.boot := rfl

/-! ### setOperand -/

@[simp] theorem State.setOperand_f (s : State) (x : Operand8) (v : Byte) : (s.setOperand x v).f = s.f := by cases x with | reg r => cases r <;> rfl | indHl => rfl
@[simp] theorem State.setOperand_pc (s : State) (x : Operand8) (v : Byte) : (s.setOperand x v).pc = s.pc := by cases x with | reg r => cases r <;> rfl | indHl => rfl
@[simp] theorem State.setOperand_sp (s : State) (x : Operand8) (v : Byte) : (s.setOperand x v).sp = s.sp := by cases x with | reg r => cases r <;> rfl | indHl => rfl
@[simp] theorem State.setOperand_runState (s : State) (x : Operand8) (v : Byte) : (s.setOperand x v).runState = s.runState := by cases x with | reg r => cases r <;> rfl | indHl => rfl
@[simp] theorem State.setOperand_ime (s : State) (x : Operand8) (v : Byte) : (s.setOperand x v).ime = s.ime := by cases x with | reg r => cases r <;> rfl | indHl => rfl
@[simp] theorem State.setOperand_imePending (s : State) (x : Operand8) (v : Byte) : (s.setOperand x v).imePending = s.imePending := by cases x with | reg r => cases r <;> rfl | indHl => rfl
@[simp] theorem State.setOperand_cycleCount (s : State) (x : Operand8) (v : Byte) : (s.setOperand x v).cycleCount = s.cycleCount := by cases x with | reg r => cases r <;> rfl | indHl => rfl
@[simp] theorem State.setOperand_fatalOpcode (s : State) (x : Operand8) (v : Byte) : (s.setOperand x v).fatalOpcode = s.fatalOpcode := by cases x with | reg r => cases r <;> rfl | indHl => rfl
@[simp] theorem State.setOperand_fatalPc (s : State) (x : Operand8) (v : Byte) : (s.setOperand x v).fatalPc = s.fatalPc := by cases x with | reg r => cases r <;> rfl | indHl => rfl
@[simp] theorem State.setOperand_boot (s : State) (x : Operand8) (v : Byte) : (s.setOperand x v).boot = s.boot := by cases x with | reg r => cases r <;> rfl | indHl => rfl

/-! ### idle -/

@[simp] theorem State.idle_a (s : State) : (s.idle).a = s.a := rfl
@[simp] theorem State.idle_f (s : State) : (s.idle).f = s.f := rfl
@[simp] theorem State.idle_b (s : State) : (s.idle).b = s.b := rfl
@[simp] theorem State.idle_c (s : State) : (s.idle).c = s.c := rfl
@[simp] theorem State.idle_d (s : State) : (s.idle).d = s.d := rfl
@[simp] theorem State.idle_e (s : State) : (s.idle).e = s.e := rfl
@[simp] theorem State.idle_h (s : State) : (s.idle).h = s.h := rfl
@[simp] theorem State.idle_l (s : State) : (s.idle).l = s.l := rfl
@[simp] theorem State.idle_pc (s : State) : (s.idle).pc = s.pc := rfl
@[simp] theorem State.idle_sp (s : State) : (s.idle).sp = s.sp := rfl
@[simp] theorem State.idle_runState (s : State) : (s.idle).runState = s.runState := rfl
@[simp] theorem State.idle_ime (s : State) : (s.idle).ime = s.ime := rfl
@[simp] theorem State.idle_imePending (s : State) : (s.idle).imePending = s.imePending := rfl
@[simp] theorem State.idle_overlayActive (s : State) : (s.idle).overlayActive = s.overlayActive := rfl
@[simp] theorem State.idle_cycleCount (s : State) : (s.idle).cycleCount = s.cycleCount + BitVec.ofNat 64 Config.idleCycles := rfl
@[simp] theorem State.idle_fatalOpcode (s : State) : (s.idle).fatalOpcode = s.fatalOpcode := rfl
@[simp] theorem State.idle_fatalPc (s : State) : (s.idle).fatalPc = s.fatalPc := rfl
@[simp] theorem State.idle_main (s : State) : (s.idle).main = s.main := rfl
@[simp] theorem State.idle_boot (s : State) : (s.idle).boot = s.boot := rfl

/-! ### promoteIme -/

@[simp] theorem State.promoteIme_a (s : State) (arm : Bool) : (s.promoteIme arm).a = s.a := by unfold State.promoteIme; split <;> rfl
@[simp] theorem State.promoteIme_f (s : State) (arm : Bool) : (s.promoteIme arm).f = s.f := by unfold State.promoteIme; split <;> rfl
@[simp] theorem State.promoteIme_b (s : State) (arm : Bool) : (s.promoteIme arm).b = s.b := by unfold State.promoteIme; split <;> rfl
@[simp] theorem State.promoteIme_c (s : State) (arm : Bool) : (s.promoteIme arm).c = s.c := by unfold State.promoteIme; split <;> rfl
@[simp] theorem State.promoteIme_d (s : State) (arm : Bool) : (s.promoteIme arm).d = s.d := by unfold State.promoteIme; split <;> rfl
@[simp] theorem State.promoteIme_e (s : State) (arm : Bool) : (s.promoteIme arm).e = s.e := by unfold State.promoteIme; split <;> rfl
@[simp] theorem State.promoteIme_h (s : State) (arm : Bool) : (s.promoteIme arm).h = s.h := by unfold State.promoteIme; split <;> rfl
@[simp] theorem State.promoteIme_l (s : State) (arm : Bool) : (s.promoteIme arm).l = s.l := by unfold State.promoteIme; split <;> rfl
@[simp] theorem State.promoteIme_pc (s : State) (arm : Bool) : (s.promoteIme arm).pc = s.pc := by unfold State.promoteIme; split <;> rfl
@[simp] theorem State.promoteIme_sp (s : State) (arm : Bool) : (s.promoteIme arm).sp = s.sp := by unfold State.promoteIme; split <;> rfl
@[simp] theorem State.promoteIme_runState (s : State) (arm : Bool) : (s.promoteIme arm).runState = s.runState := by unfold State.promoteIme; split <;> rfl
@[simp] theorem State.promoteIme_overlayActive (s : State) (arm : Bool) : (s.promoteIme arm).overlayActive = s.overlayActive := by unfold State.promoteIme; split <;> rfl
@[simp] theorem State.promoteIme_cycleCount (s : State) (arm : Bool) : (s.promoteIme arm).cycleCount = s.cycleCount := by unfold State.promoteIme; split <;> rfl
@[simp] theorem State.promoteIme_fatalOpcode (s : State) (arm : Bool) : (s.promoteIme arm).fatalOpcode = s.fatalOpcode := by unfold State.promoteIme; split <;> rfl
@[simp] theorem State.promoteIme_fatalPc (s : State) (arm : Bool) : (s.promoteIme arm).fatalPc = s.fatalPc := by unfold State.promoteIme; split <;> rfl
@[simp] theorem State.promoteIme_main (s : State) (arm : Bool) : (s.promoteIme arm).main = s.main := by unfold State.promoteIme; split <;> rfl
@[simp] theorem State.promoteIme_boot (s : State) (arm : Bool) : (s.promoteIme arm).boot = s.boot := by unfold State.promoteIme; split <;> rfl

/-! ### Registers read after they are written -/

theorem State.reg_setReg (s : State) (r q : Reg8) (v : Byte) :
    (s.setReg r v).reg q = if q = r then v else s.reg q := by
  cases r <;> cases q <;> rfl

theorem wordOf_split (v : Word) : wordOf (highByte v) (lowByte v) = v := by
  apply BitVec.eq_of_toNat_eq
  have := v.isLt
  simp only [wordOf, highByte, lowByte, BitVec.toNat_append, BitVec.extractLsb'_toNat]
  rw [Nat.shiftLeft_eq, Nat.shiftRight_eq_div_pow, Nat.shiftRight_eq_div_pow]
  rw [← Nat.shiftLeft_eq, ← Nat.shiftLeft_add_eq_or_of_lt (by omega), Nat.shiftLeft_eq]
  omega

@[simp] theorem highByte_wordOf (hi lo : Byte) : highByte (wordOf hi lo) = hi := by
  simp only [highByte, wordOf]
  ext i hlt
  simp only [BitVec.getElem_extractLsb', BitVec.getLsbD_append]
  simp [show ¬ 8 + i < 8 by omega, BitVec.getLsbD_eq_getElem hlt]

@[simp] theorem lowByte_wordOf (hi lo : Byte) : lowByte (wordOf hi lo) = lo := by
  simp only [lowByte, wordOf]
  ext i hi
  simp only [BitVec.getElem_extractLsb', BitVec.getLsbD_append]
  simp [hi]

/-- Reading rr after writing it gives the value (R33). -/
theorem State.pair_setPair (s : State) (p : Pair) (v : Word) : (s.setPair p v).pair p = v := by
  cases p <;> first | rfl | exact wordOf_split v

end Sys2Proof.Machine
end

