-- ==== Sys2Proof/Laws/Ops.lean ====
section
/-! SUPPORT. What each shared operation can do, once. -/

namespace Sys2Proof.Machine

/-! ### The addressable unit -/

/-- The main space after one store (R75). -/
theorem State.read_main_writeByte (s : State) (x : Word) (v : Byte) (k : Nat) :
    Memory.read (s.writeByte x v).main k = if k = x.toNat then v else Memory.read s.main k :=
  Memory.read_write _ _ _ _

/-- A store at any address but 0xFF50, or with bit 0 clear, leaves the latch (R75). -/
theorem State.overlay_writeByte_of_ne (s : State) (x : Word) (v : Byte)
    (h : x ≠ Config.overlayDisableAddr ∨ v.getLsbD 0 = false) :
    (s.writeByte x v).overlayActive = s.overlayActive := by
  rcases h with h | h
  · simp [h]
  · rw [State.writeByte_overlayActive, h]; simp

/-- The latch never rises by a store (R44). -/
theorem State.overlay_writeByte_mono (s : State) (x : Word) (v : Byte) (h : s.overlayActive = false) :
    (s.writeByte x v).overlayActive = false := by
  simp [h]

/-! ### The invariant under the shared updates -/

theorem State.inv_writeByte (s : State) (x : Word) (v : Byte) (h : s.Inv) : (s.writeByte x v).Inv :=
  ⟨Memory.wf_write _ _ _ h.1, h.2.1, h.2.2⟩

theorem State.inv_writeWord (s : State) (x v : Word) (h : s.Inv) : (s.writeWord x v).Inv :=
  State.inv_writeByte _ _ _ (State.inv_writeByte _ _ _ h)

theorem State.inv_push16 (s : State) (v : Word) (h : s.Inv) : (s.push16 v).Inv := by
  have h1 : ({ s with sp := s.sp - 1 } : State).Inv := h
  have h2 := State.inv_writeByte _ (s.sp - 1) (highByte v) h1
  exact State.inv_writeByte _ _ _ (show State.Inv { State.writeByte { s with sp := s.sp - 1 } (s.sp - 1) (highByte v) with sp := _ } from h2)

theorem State.inv_setReg (s : State) (r : Reg8) (v : Byte) (h : s.Inv) : (s.setReg r v).Inv := by
  cases r <;> exact h

theorem State.inv_setOperand (s : State) (o : Operand8) (v : Byte) (h : s.Inv) : (s.setOperand o v).Inv := by
  cases o with
  | reg r => exact State.inv_setReg s r v h
  | indHl => exact State.inv_writeByte s _ v h

theorem State.inv_setStackPair (s : State) (q : StackPair) (v : Word) (h : s.Inv) : (s.setStackPair q v).Inv := by
  cases q
  case af =>
    refine ⟨h.1, h.2.1, ?_⟩
    show (lowByte v &&& 0xF0) &&& 0x0F = 0
    rw [BitVec.and_assoc]
    exact BitVec.and_zero
  all_goals exact h

theorem State.inv_of_flags (s : State) (g : Byte) (h : s.Inv) (hg : g &&& 0x0F = s.f &&& 0x0F) :
    ({ s with f := g } : State).Inv :=
  ⟨h.1, h.2.1, hg.trans h.2.2⟩

/-- Reset's memory is in canonical form. -/
theorem State.reset_main_wf : Memory.wf State.reset.main = true := rfl

/-- The host's placement keeps the invariant. -/
theorem State.inv_placeByte (s : State) (x : Word) (v : Byte) (h : s.Inv) : (s.placeByte x v).Inv := by
  unfold State.placeByte
  split
  · rename_i ho
    have hx : x.toNat < Config.overlaySize := by
      simp only [State.overlaid, Bool.and_eq_true, decide_eq_true_eq] at ho
      exact ho.2
    exact ⟨h.1, Memory.canonical_write _ _ _ _ h.2.1 hx, h.2.2⟩
  · exact ⟨Memory.wf_write _ _ _ h.1, h.2.1, h.2.2⟩

theorem State.inv_placeBytes (bytes : List Byte) (s : State) (x : Word) (h : s.Inv) : (s.placeBytes x bytes).Inv := by
  induction bytes generalizing s x with
  | nil => exact h
  | cons v rest ih => exact ih _ _ (State.inv_placeByte s x v h)

/-! ### Ends of an instruction -/

/-- `finish` answers a next state that differs from its argument in PC and the cycle counter only. -/
theorem finish_next (len cyc : Nat) (s t : State) (h : finish len cyc s = .next t) :
    t = { s with pc := s.pc + BitVec.ofNat 16 len, cycleCount := s.cycleCount + BitVec.ofNat 64 cyc } := by
  cases h
  rfl

/-- `finishAt` likewise, PC at the target. -/
theorem finishAt_next (target : Word) (cyc : Nat) (s t : State) (h : finishAt target cyc s = .next t) :
    t = { s with pc := target, cycleCount := s.cycleCount + BitVec.ofNat 64 cyc } := by
  cases h
  rfl

/-- Taking the exception changes run_state and the fatal record only. -/
theorem raiseFatal_next (op : Byte) (s t : State) (h : raiseFatal op s = .next t) :
    t = { s with runState := .fatal, fatalOpcode := op, fatalPc := s.pc } := by
  cases h
  rfl

/-- The end of a step answers a next state exactly where its instruction does. -/
theorem endStep_next (arm : Bool) (r : Result) (t : State) (h : endStep arm r = .next t) :
    ∃ u, r = .next u ∧ t = u.promoteIme arm := by
  cases r with
  | next u => exact ⟨u, rfl, by cases h; rfl⟩
  | fault _ => cases h
  | refused _ => cases h

/-- What one step can be: idle, or an instruction with the promotion of a pending EI. -/
theorem step_next_cases (s t : State) (h : step s = .next t) :
    ((s.runState = .halted ∨ s.runState = .stopped) ∧ t = s.idle) ∨
      (s.runState = .running ∧ ∃ u, exec s.fetchInstr s = .next u ∧ t = u.promoteIme s.imePending) := by
  unfold step at h
  cases hr : s.runState with
  | fatal => rw [hr] at h; cases h
  | halted => rw [hr] at h; cases h; exact .inl ⟨.inl rfl, rfl⟩
  | stopped => rw [hr] at h; cases h; exact .inl ⟨.inr rfl, rfl⟩
  | running => rw [hr] at h; exact .inr ⟨rfl, endStep_next _ _ _ h⟩

/-- Decoding a list of enough bytes gives the instruction of its first three (missing ones read as zero). -/
theorem decode_cons (op : Byte) (rest : List Byte)
    (h : (decodeBytes op (rest.getD 0 0) (rest.getD 1 0)).size ≤ rest.length + 1) :
    decode (op :: rest) = .ok (decodeBytes op (rest.getD 0 0) (rest.getD 1 0),
      (op :: rest).drop (decodeBytes op (rest.getD 0 0) (rest.getD 1 0)).size) := by
  simp only [decode]
  rw [if_neg (by omega)]

/-- `Reset` with the empty image and no listed byte builds `State.reset`. -/
theorem construct_default : construct [] [] = .ok State.reset := rfl

end Sys2Proof.Machine
end

