-- ==== Sys2Proof/Laws/PerInstr.lean ====
section
/-! SUPPORT. Laws of every instruction as syntax, one lemma for each constructor. -/

namespace Sys2Proof.Laws.EncodedSize

/-- The encoder gives an instruction as many bytes as its row of the decode table declares (R110, R128). -/
def Statement (i : Instr) : Prop := (encode i).length = i.size

theorem nop : Statement .nop := rfl
theorem ldBcN16 (n : Word) : Statement (.ldBcN16 n) := rfl
theorem ldIndBcA : Statement .ldIndBcA := rfl
theorem incBc : Statement .incBc := rfl
theorem incB : Statement .incB := rfl
theorem decB : Statement .decB := rfl
theorem ldBN8 (n : Byte) : Statement (.ldBN8 n) := rfl
theorem rlca : Statement .rlca := rfl
theorem ldIndA16Sp (addr : Word) : Statement (.ldIndA16Sp addr) := rfl
theorem addHlBc : Statement .addHlBc := rfl
theorem ldAIndBc : Statement .ldAIndBc := rfl
theorem decBc : Statement .decBc := rfl
theorem incC : Statement .incC := rfl
theorem decC : Statement .decC := rfl
theorem ldCN8 (n : Byte) : Statement (.ldCN8 n) := rfl
theorem rrca : Statement .rrca := rfl
theorem stop (ignored : Byte) : Statement (.stop ignored) := rfl
theorem ldDeN16 (n : Word) : Statement (.ldDeN16 n) := rfl
theorem ldIndDeA : Statement .ldIndDeA := rfl
theorem incDe : Statement .incDe := rfl
theorem incD : Statement .incD := rfl
theorem decD : Statement .decD := rfl
theorem ldDN8 (n : Byte) : Statement (.ldDN8 n) := rfl
theorem rla : Statement .rla := rfl
theorem jrE8 (e : Byte) : Statement (.jrE8 e) := rfl
theorem addHlDe : Statement .addHlDe := rfl
theorem ldAIndDe : Statement .ldAIndDe := rfl
theorem decDe : Statement .decDe := rfl
theorem incE : Statement .incE := rfl
theorem decE : Statement .decE := rfl
theorem ldEN8 (n : Byte) : Statement (.ldEN8 n) := rfl
theorem rra : Statement .rra := rfl
theorem jrNzE8 (e : Byte) : Statement (.jrNzE8 e) := rfl
theorem ldHlN16 (n : Word) : Statement (.ldHlN16 n) := rfl
theorem ldIndHlIncA : Statement .ldIndHlIncA := rfl
theorem incHl : Statement .incHl := rfl
theorem incH : Statement .incH := rfl
theorem decH : Statement .decH := rfl
theorem ldHN8 (n : Byte) : Statement (.ldHN8 n) := rfl
theorem daa : Statement .daa := rfl
theorem jrZE8 (e : Byte) : Statement (.jrZE8 e) := rfl
theorem addHlHl : Statement .addHlHl := rfl
theorem ldAIndHlInc : Statement .ldAIndHlInc := rfl
theorem decHl : Statement .decHl := rfl
theorem incL : Statement .incL := rfl
theorem decL : Statement .decL := rfl
theorem ldLN8 (n : Byte) : Statement (.ldLN8 n) := rfl
theorem cpl : Statement .cpl := rfl
theorem jrNcE8 (e : Byte) : Statement (.jrNcE8 e) := rfl
theorem ldSpN16 (n : Word) : Statement (.ldSpN16 n) := rfl
theorem ldIndHlDecA : Statement .ldIndHlDecA := rfl
theorem incSp : Statement .incSp := rfl
theorem incIndHl : Statement .incIndHl := rfl
theorem decIndHl : Statement .decIndHl := rfl
theorem ldIndHlN8 (n : Byte) : Statement (.ldIndHlN8 n) := rfl
theorem scf : Statement .scf := rfl
theorem jrCE8 (e : Byte) : Statement (.jrCE8 e) := rfl
theorem addHlSp : Statement .addHlSp := rfl
theorem ldAIndHlDec : Statement .ldAIndHlDec := rfl
theorem decSp : Statement .decSp := rfl
theorem incA : Statement .incA := rfl
theorem decA : Statement .decA := rfl
theorem ldAN8 (n : Byte) : Statement (.ldAN8 n) := rfl
theorem ccf : Statement .ccf := rfl
theorem ldBB : Statement .ldBB := rfl
theorem ldBC : Statement .ldBC := rfl
theorem ldBD : Statement .ldBD := rfl
theorem ldBE : Statement .ldBE := rfl
theorem ldBH : Statement .ldBH := rfl
theorem ldBL : Statement .ldBL := rfl
theorem ldBIndHl : Statement .ldBIndHl := rfl
theorem ldBA : Statement .ldBA := rfl
theorem ldCB : Statement .ldCB := rfl
theorem ldCC : Statement .ldCC := rfl
theorem ldCD : Statement .ldCD := rfl
theorem ldCE : Statement .ldCE := rfl
theorem ldCH : Statement .ldCH := rfl
theorem ldCL : Statement .ldCL := rfl
theorem ldCIndHl : Statement .ldCIndHl := rfl
theorem ldCA : Statement .ldCA := rfl
theorem ldDB : Statement .ldDB := rfl
theorem ldDC : Statement .ldDC := rfl
theorem ldDD : Statement .ldDD := rfl
theorem ldDE : Statement .ldDE := rfl
theorem ldDH : Statement .ldDH := rfl
theorem ldDL : Statement .ldDL := rfl
theorem ldDIndHl : Statement .ldDIndHl := rfl
theorem ldDA : Statement .ldDA := rfl
theorem ldEB : Statement .ldEB := rfl
theorem ldEC : Statement .ldEC := rfl
theorem ldED : Statement .ldED := rfl
theorem ldEE : Statement .ldEE := rfl
theorem ldEH : Statement .ldEH := rfl
theorem ldEL : Statement .ldEL := rfl
theorem ldEIndHl : Statement .ldEIndHl := rfl
theorem ldEA : Statement .ldEA := rfl
theorem ldHB : Statement .ldHB := rfl
theorem ldHC : Statement .ldHC := rfl
theorem ldHD : Statement .ldHD := rfl
theorem ldHE : Statement .ldHE := rfl
theorem ldHH : Statement .ldHH := rfl
theorem ldHL : Statement .ldHL := rfl
theorem ldHIndHl : Statement .ldHIndHl := rfl
theorem ldHA : Statement .ldHA := rfl
theorem ldLB : Statement .ldLB := rfl
theorem ldLC : Statement .ldLC := rfl
theorem ldLD : Statement .ldLD := rfl
theorem ldLE : Statement .ldLE := rfl
theorem ldLH : Statement .ldLH := rfl
theorem ldLL : Statement .ldLL := rfl
theorem ldLIndHl : Statement .ldLIndHl := rfl
theorem ldLA : Statement .ldLA := rfl
theorem ldIndHlB : Statement .ldIndHlB := rfl
theorem ldIndHlC : Statement .ldIndHlC := rfl
theorem ldIndHlD : Statement .ldIndHlD := rfl
theorem ldIndHlE : Statement .ldIndHlE := rfl
theorem ldIndHlH : Statement .ldIndHlH := rfl
theorem ldIndHlL : Statement .ldIndHlL := rfl
theorem halt : Statement .halt := rfl
theorem ldIndHlA : Statement .ldIndHlA := rfl
theorem ldAB : Statement .ldAB := rfl
theorem ldAC : Statement .ldAC := rfl
theorem ldAD : Statement .ldAD := rfl
theorem ldAE : Statement .ldAE := rfl
theorem ldAH : Statement .ldAH := rfl
theorem ldAL : Statement .ldAL := rfl
theorem ldAIndHl : Statement .ldAIndHl := rfl
theorem ldAA : Statement .ldAA := rfl
theorem addAB : Statement .addAB := rfl
theorem addAC : Statement .addAC := rfl
theorem addAD : Statement .addAD := rfl
theorem addAE : Statement .addAE := rfl
theorem addAH : Statement .addAH := rfl
theorem addAL : Statement .addAL := rfl
theorem addAIndHl : Statement .addAIndHl := rfl
theorem addAA : Statement .addAA := rfl
theorem adcAB : Statement .adcAB := rfl
theorem adcAC : Statement .adcAC := rfl
theorem adcAD : Statement .adcAD := rfl
theorem adcAE : Statement .adcAE := rfl
theorem adcAH : Statement .adcAH := rfl
theorem adcAL : Statement .adcAL := rfl
theorem adcAIndHl : Statement .adcAIndHl := rfl
theorem adcAA : Statement .adcAA := rfl
theorem subAB : Statement .subAB := rfl
theorem subAC : Statement .subAC := rfl
theorem subAD : Statement .subAD := rfl
theorem subAE : Statement .subAE := rfl
theorem subAH : Statement .subAH := rfl
theorem subAL : Statement .subAL := rfl
theorem subAIndHl : Statement .subAIndHl := rfl
theorem subAA : Statement .subAA := rfl
theorem sbcAB : Statement .sbcAB := rfl
theorem sbcAC : Statement .sbcAC := rfl
theorem sbcAD : Statement .sbcAD := rfl
theorem sbcAE : Statement .sbcAE := rfl
theorem sbcAH : Statement .sbcAH := rfl
theorem sbcAL : Statement .sbcAL := rfl
theorem sbcAIndHl : Statement .sbcAIndHl := rfl
theorem sbcAA : Statement .sbcAA := rfl
theorem andAB : Statement .andAB := rfl
theorem andAC : Statement .andAC := rfl
theorem andAD : Statement .andAD := rfl
theorem andAE : Statement .andAE := rfl
theorem andAH : Statement .andAH := rfl
theorem andAL : Statement .andAL := rfl
theorem andAIndHl : Statement .andAIndHl := rfl
theorem andAA : Statement .andAA := rfl
theorem xorAB : Statement .xorAB := rfl
theorem xorAC : Statement .xorAC := rfl
theorem xorAD : Statement .xorAD := rfl
theorem xorAE : Statement .xorAE := rfl
theorem xorAH : Statement .xorAH := rfl
theorem xorAL : Statement .xorAL := rfl
theorem xorAIndHl : Statement .xorAIndHl := rfl
theorem xorAA : Statement .xorAA := rfl
theorem orAB : Statement .orAB := rfl
theorem orAC : Statement .orAC := rfl
theorem orAD : Statement .orAD := rfl
theorem orAE : Statement .orAE := rfl
theorem orAH : Statement .orAH := rfl
theorem orAL : Statement .orAL := rfl
theorem orAIndHl : Statement .orAIndHl := rfl
theorem orAA : Statement .orAA := rfl
theorem cpAB : Statement .cpAB := rfl
theorem cpAC : Statement .cpAC := rfl
theorem cpAD : Statement .cpAD := rfl
theorem cpAE : Statement .cpAE := rfl
theorem cpAH : Statement .cpAH := rfl
theorem cpAL : Statement .cpAL := rfl
theorem cpAIndHl : Statement .cpAIndHl := rfl
theorem cpAA : Statement .cpAA := rfl
theorem retNz : Statement .retNz := rfl
theorem popBc : Statement .popBc := rfl
theorem jpNzA16 (addr : Word) : Statement (.jpNzA16 addr) := rfl
theorem jpA16 (addr : Word) : Statement (.jpA16 addr) := rfl
theorem callNzA16 (addr : Word) : Statement (.callNzA16 addr) := rfl
theorem pushBc : Statement .pushBc := rfl
theorem addAN8 (n : Byte) : Statement (.addAN8 n) := rfl
theorem rst00 : Statement .rst00 := rfl
theorem retZ : Statement .retZ := rfl
theorem ret : Statement .ret := rfl
theorem jpZA16 (addr : Word) : Statement (.jpZA16 addr) := rfl
theorem prefixCb : Statement .prefixCb := rfl
theorem callZA16 (addr : Word) : Statement (.callZA16 addr) := rfl
theorem callA16 (addr : Word) : Statement (.callA16 addr) := rfl
theorem adcAN8 (n : Byte) : Statement (.adcAN8 n) := rfl
theorem rst08 : Statement .rst08 := rfl
theorem retNc : Statement .retNc := rfl
theorem popDe : Statement .popDe := rfl
theorem jpNcA16 (addr : Word) : Statement (.jpNcA16 addr) := rfl
theorem unimplementedD3 : Statement .unimplementedD3 := rfl
theorem callNcA16 (addr : Word) : Statement (.callNcA16 addr) := rfl
theorem pushDe : Statement .pushDe := rfl
theorem subAN8 (n : Byte) : Statement (.subAN8 n) := rfl
theorem rst10 : Statement .rst10 := rfl
theorem retC : Statement .retC := rfl
theorem reti : Statement .reti := rfl
theorem jpCA16 (addr : Word) : Statement (.jpCA16 addr) := rfl
theorem unimplementedDB : Statement .unimplementedDB := rfl
theorem callCA16 (addr : Word) : Statement (.callCA16 addr) := rfl
theorem unimplementedDD : Statement .unimplementedDD := rfl
theorem sbcAN8 (n : Byte) : Statement (.sbcAN8 n) := rfl
theorem rst18 : Statement .rst18 := rfl
theorem ldhIndA8A (n : Byte) : Statement (.ldhIndA8A n) := rfl
theorem popHl : Statement .popHl := rfl
theorem ldIndCA : Statement .ldIndCA := rfl
theorem unimplementedE3 : Statement .unimplementedE3 := rfl
theorem unimplementedE4 : Statement .unimplementedE4 := rfl
theorem pushHl : Statement .pushHl := rfl
theorem andAN8 (n : Byte) : Statement (.andAN8 n) := rfl
theorem rst20 : Statement .rst20 := rfl
theorem addSpE8 (e : Byte) : Statement (.addSpE8 e) := rfl
theorem jpHl : Statement .jpHl := rfl
theorem ldIndA16A (addr : Word) : Statement (.ldIndA16A addr) := rfl
theorem unimplementedEB : Statement .unimplementedEB := rfl
theorem unimplementedEC : Statement .unimplementedEC := rfl
theorem unimplementedED : Statement .unimplementedED := rfl
theorem xorAN8 (n : Byte) : Statement (.xorAN8 n) := rfl
theorem rst28 : Statement .rst28 := rfl
theorem ldhAIndA8 (n : Byte) : Statement (.ldhAIndA8 n) := rfl
theorem popAf : Statement .popAf := rfl
theorem ldAIndC : Statement .ldAIndC := rfl
theorem di : Statement .di := rfl
theorem unimplementedF4 : Statement .unimplementedF4 := rfl
theorem pushAf : Statement .pushAf := rfl
theorem orAN8 (n : Byte) : Statement (.orAN8 n) := rfl
theorem rst30 : Statement .rst30 := rfl
theorem ldHlSpE8 (e : Byte) : Statement (.ldHlSpE8 e) := rfl
theorem ldSpHl : Statement .ldSpHl := rfl
theorem ldAIndA16 (addr : Word) : Statement (.ldAIndA16 addr) := rfl
theorem ei : Statement .ei := rfl
theorem unimplementedFC : Statement .unimplementedFC := rfl
theorem unimplementedFD : Statement .unimplementedFD := rfl
theorem cpAN8 (n : Byte) : Statement (.cpAN8 n) := rfl
theorem rst38 : Statement .rst38 := rfl
theorem cbRlcB : Statement .cbRlcB := rfl
theorem cbRlcC : Statement .cbRlcC := rfl
theorem cbRlcD : Statement .cbRlcD := rfl
theorem cbRlcE : Statement .cbRlcE := rfl
theorem cbRlcH : Statement .cbRlcH := rfl
theorem cbRlcL : Statement .cbRlcL := rfl
theorem cbRlcIndHl : Statement .cbRlcIndHl := rfl
theorem cbRlcA : Statement .cbRlcA := rfl
theorem cbRrcB : Statement .cbRrcB := rfl
theorem cbRrcC : Statement .cbRrcC := rfl
theorem cbRrcD : Statement .cbRrcD := rfl
theorem cbRrcE : Statement .cbRrcE := rfl
theorem cbRrcH : Statement .cbRrcH := rfl
theorem cbRrcL : Statement .cbRrcL := rfl
theorem cbRrcIndHl : Statement .cbRrcIndHl := rfl
theorem cbRrcA : Statement .cbRrcA := rfl
theorem cbRlB : Statement .cbRlB := rfl
theorem cbRlC : Statement .cbRlC := rfl
theorem cbRlD : Statement .cbRlD := rfl
theorem cbRlE : Statement .cbRlE := rfl
theorem cbRlH : Statement .cbRlH := rfl
theorem cbRlL : Statement .cbRlL := rfl
theorem cbRlIndHl : Statement .cbRlIndHl := rfl
theorem cbRlA : Statement .cbRlA := rfl
theorem cbRrB : Statement .cbRrB := rfl
theorem cbRrC : Statement .cbRrC := rfl
theorem cbRrD : Statement .cbRrD := rfl
theorem cbRrE : Statement .cbRrE := rfl
theorem cbRrH : Statement .cbRrH := rfl
theorem cbRrL : Statement .cbRrL := rfl
theorem cbRrIndHl : Statement .cbRrIndHl := rfl
theorem cbRrA : Statement .cbRrA := rfl
theorem cbSlaB : Statement .cbSlaB := rfl
theorem cbSlaC : Statement .cbSlaC := rfl
theorem cbSlaD : Statement .cbSlaD := rfl
theorem cbSlaE : Statement .cbSlaE := rfl
theorem cbSlaH : Statement .cbSlaH := rfl
theorem cbSlaL : Statement .cbSlaL := rfl
theorem cbSlaIndHl : Statement .cbSlaIndHl := rfl
theorem cbSlaA : Statement .cbSlaA := rfl
theorem cbSraB : Statement .cbSraB := rfl
theorem cbSraC : Statement .cbSraC := rfl
theorem cbSraD : Statement .cbSraD := rfl
theorem cbSraE : Statement .cbSraE := rfl
theorem cbSraH : Statement .cbSraH := rfl
theorem cbSraL : Statement .cbSraL := rfl
theorem cbSraIndHl : Statement .cbSraIndHl := rfl
theorem cbSraA : Statement .cbSraA := rfl
theorem cbSwapB : Statement .cbSwapB := rfl
theorem cbSwapC : Statement .cbSwapC := rfl
theorem cbSwapD : Statement .cbSwapD := rfl
theorem cbSwapE : Statement .cbSwapE := rfl
theorem cbSwapH : Statement .cbSwapH := rfl
theorem cbSwapL : Statement .cbSwapL := rfl
theorem cbSwapIndHl : Statement .cbSwapIndHl := rfl
theorem cbSwapA : Statement .cbSwapA := rfl
theorem cbSrlB : Statement .cbSrlB := rfl
theorem cbSrlC : Statement .cbSrlC := rfl
theorem cbSrlD : Statement .cbSrlD := rfl
theorem cbSrlE : Statement .cbSrlE := rfl
theorem cbSrlH : Statement .cbSrlH := rfl
theorem cbSrlL : Statement .cbSrlL := rfl
theorem cbSrlIndHl : Statement .cbSrlIndHl := rfl
theorem cbSrlA : Statement .cbSrlA := rfl
theorem cbBit0B : Statement .cbBit0B := rfl
theorem cbBit0C : Statement .cbBit0C := rfl
theorem cbBit0D : Statement .cbBit0D := rfl
theorem cbBit0E : Statement .cbBit0E := rfl
theorem cbBit0H : Statement .cbBit0H := rfl
theorem cbBit0L : Statement .cbBit0L := rfl
theorem cbBit0IndHl : Statement .cbBit0IndHl := rfl
theorem cbBit0A : Statement .cbBit0A := rfl
theorem cbBit1B : Statement .cbBit1B := rfl
theorem cbBit1C : Statement .cbBit1C := rfl
theorem cbBit1D : Statement .cbBit1D := rfl
theorem cbBit1E : Statement .cbBit1E := rfl
theorem cbBit1H : Statement .cbBit1H := rfl
theorem cbBit1L : Statement .cbBit1L := rfl
theorem cbBit1IndHl : Statement .cbBit1IndHl := rfl
theorem cbBit1A : Statement .cbBit1A := rfl
theorem cbBit2B : Statement .cbBit2B := rfl
theorem cbBit2C : Statement .cbBit2C := rfl
theorem cbBit2D : Statement .cbBit2D := rfl
theorem cbBit2E : Statement .cbBit2E := rfl
theorem cbBit2H : Statement .cbBit2H := rfl
theorem cbBit2L : Statement .cbBit2L := rfl
theorem cbBit2IndHl : Statement .cbBit2IndHl := rfl
theorem cbBit2A : Statement .cbBit2A := rfl
theorem cbBit3B : Statement .cbBit3B := rfl
theorem cbBit3C : Statement .cbBit3C := rfl
theorem cbBit3D : Statement .cbBit3D := rfl
theorem cbBit3E : Statement .cbBit3E := rfl
theorem cbBit3H : Statement .cbBit3H := rfl
theorem cbBit3L : Statement .cbBit3L := rfl
theorem cbBit3IndHl : Statement .cbBit3IndHl := rfl
theorem cbBit3A : Statement .cbBit3A := rfl
theorem cbBit4B : Statement .cbBit4B := rfl
theorem cbBit4C : Statement .cbBit4C := rfl
theorem cbBit4D : Statement .cbBit4D := rfl
theorem cbBit4E : Statement .cbBit4E := rfl
theorem cbBit4H : Statement .cbBit4H := rfl
theorem cbBit4L : Statement .cbBit4L := rfl
theorem cbBit4IndHl : Statement .cbBit4IndHl := rfl
theorem cbBit4A : Statement .cbBit4A := rfl
theorem cbBit5B : Statement .cbBit5B := rfl
theorem cbBit5C : Statement .cbBit5C := rfl
theorem cbBit5D : Statement .cbBit5D := rfl
theorem cbBit5E : Statement .cbBit5E := rfl
theorem cbBit5H : Statement .cbBit5H := rfl
theorem cbBit5L : Statement .cbBit5L := rfl
theorem cbBit5IndHl : Statement .cbBit5IndHl := rfl
theorem cbBit5A : Statement .cbBit5A := rfl
theorem cbBit6B : Statement .cbBit6B := rfl
theorem cbBit6C : Statement .cbBit6C := rfl
theorem cbBit6D : Statement .cbBit6D := rfl
theorem cbBit6E : Statement .cbBit6E := rfl
theorem cbBit6H : Statement .cbBit6H := rfl
theorem cbBit6L : Statement .cbBit6L := rfl
theorem cbBit6IndHl : Statement .cbBit6IndHl := rfl
theorem cbBit6A : Statement .cbBit6A := rfl
theorem cbBit7B : Statement .cbBit7B := rfl
theorem cbBit7C : Statement .cbBit7C := rfl
theorem cbBit7D : Statement .cbBit7D := rfl
theorem cbBit7E : Statement .cbBit7E := rfl
theorem cbBit7H : Statement .cbBit7H := rfl
theorem cbBit7L : Statement .cbBit7L := rfl
theorem cbBit7IndHl : Statement .cbBit7IndHl := rfl
theorem cbBit7A : Statement .cbBit7A := rfl
theorem cbRes0B : Statement .cbRes0B := rfl
theorem cbRes0C : Statement .cbRes0C := rfl
theorem cbRes0D : Statement .cbRes0D := rfl
theorem cbRes0E : Statement .cbRes0E := rfl
theorem cbRes0H : Statement .cbRes0H := rfl
theorem cbRes0L : Statement .cbRes0L := rfl
theorem cbRes0IndHl : Statement .cbRes0IndHl := rfl
theorem cbRes0A : Statement .cbRes0A := rfl
theorem cbRes1B : Statement .cbRes1B := rfl
theorem cbRes1C : Statement .cbRes1C := rfl
theorem cbRes1D : Statement .cbRes1D := rfl
theorem cbRes1E : Statement .cbRes1E := rfl
theorem cbRes1H : Statement .cbRes1H := rfl
theorem cbRes1L : Statement .cbRes1L := rfl
theorem cbRes1IndHl : Statement .cbRes1IndHl := rfl
theorem cbRes1A : Statement .cbRes1A := rfl
theorem cbRes2B : Statement .cbRes2B := rfl
theorem cbRes2C : Statement .cbRes2C := rfl
theorem cbRes2D : Statement .cbRes2D := rfl
theorem cbRes2E : Statement .cbRes2E := rfl
theorem cbRes2H : Statement .cbRes2H := rfl
theorem cbRes2L : Statement .cbRes2L := rfl
theorem cbRes2IndHl : Statement .cbRes2IndHl := rfl
theorem cbRes2A : Statement .cbRes2A := rfl
theorem cbRes3B : Statement .cbRes3B := rfl
theorem cbRes3C : Statement .cbRes3C := rfl
theorem cbRes3D : Statement .cbRes3D := rfl
theorem cbRes3E : Statement .cbRes3E := rfl
theorem cbRes3H : Statement .cbRes3H := rfl
theorem cbRes3L : Statement .cbRes3L := rfl
theorem cbRes3IndHl : Statement .cbRes3IndHl := rfl
theorem cbRes3A : Statement .cbRes3A := rfl
theorem cbRes4B : Statement .cbRes4B := rfl
theorem cbRes4C : Statement .cbRes4C := rfl
theorem cbRes4D : Statement .cbRes4D := rfl
theorem cbRes4E : Statement .cbRes4E := rfl
theorem cbRes4H : Statement .cbRes4H := rfl
theorem cbRes4L : Statement .cbRes4L := rfl
theorem cbRes4IndHl : Statement .cbRes4IndHl := rfl
theorem cbRes4A : Statement .cbRes4A := rfl
theorem cbRes5B : Statement .cbRes5B := rfl
theorem cbRes5C : Statement .cbRes5C := rfl
theorem cbRes5D : Statement .cbRes5D := rfl
theorem cbRes5E : Statement .cbRes5E := rfl
theorem cbRes5H : Statement .cbRes5H := rfl
theorem cbRes5L : Statement .cbRes5L := rfl
theorem cbRes5IndHl : Statement .cbRes5IndHl := rfl
theorem cbRes5A : Statement .cbRes5A := rfl
theorem cbRes6B : Statement .cbRes6B := rfl
theorem cbRes6C : Statement .cbRes6C := rfl
theorem cbRes6D : Statement .cbRes6D := rfl
theorem cbRes6E : Statement .cbRes6E := rfl
theorem cbRes6H : Statement .cbRes6H := rfl
theorem cbRes6L : Statement .cbRes6L := rfl
theorem cbRes6IndHl : Statement .cbRes6IndHl := rfl
theorem cbRes6A : Statement .cbRes6A := rfl
theorem cbRes7B : Statement .cbRes7B := rfl
theorem cbRes7C : Statement .cbRes7C := rfl
theorem cbRes7D : Statement .cbRes7D := rfl
theorem cbRes7E : Statement .cbRes7E := rfl
theorem cbRes7H : Statement .cbRes7H := rfl
theorem cbRes7L : Statement .cbRes7L := rfl
theorem cbRes7IndHl : Statement .cbRes7IndHl := rfl
theorem cbRes7A : Statement .cbRes7A := rfl
theorem cbSet0B : Statement .cbSet0B := rfl
theorem cbSet0C : Statement .cbSet0C := rfl
theorem cbSet0D : Statement .cbSet0D := rfl
theorem cbSet0E : Statement .cbSet0E := rfl
theorem cbSet0H : Statement .cbSet0H := rfl
theorem cbSet0L : Statement .cbSet0L := rfl
theorem cbSet0IndHl : Statement .cbSet0IndHl := rfl
theorem cbSet0A : Statement .cbSet0A := rfl
theorem cbSet1B : Statement .cbSet1B := rfl
theorem cbSet1C : Statement .cbSet1C := rfl
theorem cbSet1D : Statement .cbSet1D := rfl
theorem cbSet1E : Statement .cbSet1E := rfl
theorem cbSet1H : Statement .cbSet1H := rfl
theorem cbSet1L : Statement .cbSet1L := rfl
theorem cbSet1IndHl : Statement .cbSet1IndHl := rfl
theorem cbSet1A : Statement .cbSet1A := rfl
theorem cbSet2B : Statement .cbSet2B := rfl
theorem cbSet2C : Statement .cbSet2C := rfl
theorem cbSet2D : Statement .cbSet2D := rfl
theorem cbSet2E : Statement .cbSet2E := rfl
theorem cbSet2H : Statement .cbSet2H := rfl
theorem cbSet2L : Statement .cbSet2L := rfl
theorem cbSet2IndHl : Statement .cbSet2IndHl := rfl
theorem cbSet2A : Statement .cbSet2A := rfl
theorem cbSet3B : Statement .cbSet3B := rfl
theorem cbSet3C : Statement .cbSet3C := rfl
theorem cbSet3D : Statement .cbSet3D := rfl
theorem cbSet3E : Statement .cbSet3E := rfl
theorem cbSet3H : Statement .cbSet3H := rfl
theorem cbSet3L : Statement .cbSet3L := rfl
theorem cbSet3IndHl : Statement .cbSet3IndHl := rfl
theorem cbSet3A : Statement .cbSet3A := rfl
theorem cbSet4B : Statement .cbSet4B := rfl
theorem cbSet4C : Statement .cbSet4C := rfl
theorem cbSet4D : Statement .cbSet4D := rfl
theorem cbSet4E : Statement .cbSet4E := rfl
theorem cbSet4H : Statement .cbSet4H := rfl
theorem cbSet4L : Statement .cbSet4L := rfl
theorem cbSet4IndHl : Statement .cbSet4IndHl := rfl
theorem cbSet4A : Statement .cbSet4A := rfl
theorem cbSet5B : Statement .cbSet5B := rfl
theorem cbSet5C : Statement .cbSet5C := rfl
theorem cbSet5D : Statement .cbSet5D := rfl
theorem cbSet5E : Statement .cbSet5E := rfl
theorem cbSet5H : Statement .cbSet5H := rfl
theorem cbSet5L : Statement .cbSet5L := rfl
theorem cbSet5IndHl : Statement .cbSet5IndHl := rfl
theorem cbSet5A : Statement .cbSet5A := rfl
theorem cbSet6B : Statement .cbSet6B := rfl
theorem cbSet6C : Statement .cbSet6C := rfl
theorem cbSet6D : Statement .cbSet6D := rfl
theorem cbSet6E : Statement .cbSet6E := rfl
theorem cbSet6H : Statement .cbSet6H := rfl
theorem cbSet6L : Statement .cbSet6L := rfl
theorem cbSet6IndHl : Statement .cbSet6IndHl := rfl
theorem cbSet6A : Statement .cbSet6A := rfl
theorem cbSet7B : Statement .cbSet7B := rfl
theorem cbSet7C : Statement .cbSet7C := rfl
theorem cbSet7D : Statement .cbSet7D := rfl
theorem cbSet7E : Statement .cbSet7E := rfl
theorem cbSet7H : Statement .cbSet7H := rfl
theorem cbSet7L : Statement .cbSet7L := rfl
theorem cbSet7IndHl : Statement .cbSet7IndHl := rfl
theorem cbSet7A : Statement .cbSet7A := rfl

end Sys2Proof.Laws.EncodedSize
end

