-- ==== Sys2Proof/Tests/Slice0.lean ====
section
/-! SUPPORT. The model's own tests: ill-formed terms, a word for every slot, one-step vectors of 95_test_vectors.md, and a witness for the hypotheses of every statement. -/

namespace Sys2Proof.Tests

open Sys2Proof Sys2Proof.Machine Sys2Proof.Stated

set_option maxRecDepth 8000

/-! ## Helpers -/

/-- The defaults of 95_test_vectors.md §3 (SP and the registers are as after reset). -/
def cpu : State := { State.reset with pc := 0x0100, overlayActive := false }

/-- `s` with one byte of `main` set. -/
def poke (s : State) (a : Word) (v : Byte) : State := { s with main := Memory.write s.main a.toNat v }

/-- `s` with one byte of `boot` set. -/
def pokeBoot (s : State) (a : Word) (v : Byte) : State := { s with boot := Memory.write s.boot a.toNat v }

/-- `s` with these bytes of `main` at PC. -/
def code (s : State) (bytes : List Byte) : State :=
  (bytes.foldl (fun acc v => (poke acc.1 acc.2 v, acc.2 + 1)) (s, s.pc)).1

/-- One step from `s` gives the state `f s` and reports `r`. -/
def steps (s : State) (f : State → State) (r : StepResult) : Bool :=
  (match step s with
    | .next t => decide (t = f s)
    | .fault _ => false
    | .refused _ => false) && decide (stepResult s = some r)

/-- The outcome is a next state with this property. -/
def nextHas (o : Result) (p : State → Bool) : Bool :=
  match o with
  | .next t => p t
  | .fault _ => false
  | .refused _ => false

/-- Each list of bytes decodes to its instruction, and the instruction encodes to the bytes. -/
def decodes (l : List (List Byte × Instr)) : Bool :=
  l.all fun p => decide (decode p.1 = .ok (p.2, [])) && decide (encode p.2 = p.1)

/-! ## Well-formedness -/

/-- The prefix marker is refused (R126). -/
theorem test_wf_refuses_the_prefix_marker : Instr.wf .prefixCb = false := by decide

/-- The slot it selects is accepted, and so is any operand byte (R127). -/
theorem test_wf_accepts_operands : (Instr.wf .cbRlcB && Instr.wf (.ldBcN16 0xFFFF) && Instr.wf (.stop 0xAA)) = true := by
  decide

/-! ## Decoding: every slot of the opcode table by its bytes, operands 0x9E and 0x1234 -/

/-- Slots 00 to 0F (R112 to R127). -/
theorem test_decode_00_to_0F : decodes [
    ([0x00], .nop), ([0x01, 0x34, 0x12], .ldBcN16 0x1234), ([0x02], .ldIndBcA), ([0x03], .incBc),
    ([0x04], .incB), ([0x05], .decB), ([0x06, 0x9E], .ldBN8 0x9E), ([0x07], .rlca),
    ([0x08, 0x34, 0x12], .ldIndA16Sp 0x1234), ([0x09], .addHlBc), ([0x0A], .ldAIndBc), ([0x0B], .decBc),
    ([0x0C], .incC), ([0x0D], .decC), ([0x0E, 0x9E], .ldCN8 0x9E), ([0x0F], .rrca)] = true := by decide

/-- Slots 10 to 1F (R112 to R127). -/
theorem test_decode_10_to_1F : decodes [
    ([0x10, 0x9E], .stop 0x9E), ([0x11, 0x34, 0x12], .ldDeN16 0x1234), ([0x12], .ldIndDeA), ([0x13], .incDe),
    ([0x14], .incD), ([0x15], .decD), ([0x16, 0x9E], .ldDN8 0x9E), ([0x17], .rla),
    ([0x18, 0x9E], .jrE8 0x9E), ([0x19], .addHlDe), ([0x1A], .ldAIndDe), ([0x1B], .decDe),
    ([0x1C], .incE), ([0x1D], .decE), ([0x1E, 0x9E], .ldEN8 0x9E), ([0x1F], .rra)] = true := by decide

/-- Slots 20 to 2F (R112 to R127). -/
theorem test_decode_20_to_2F : decodes [
    ([0x20, 0x9E], .jrNzE8 0x9E), ([0x21, 0x34, 0x12], .ldHlN16 0x1234), ([0x22], .ldIndHlIncA), ([0x23], .incHl),
    ([0x24], .incH), ([0x25], .decH), ([0x26, 0x9E], .ldHN8 0x9E), ([0x27], .daa),
    ([0x28, 0x9E], .jrZE8 0x9E), ([0x29], .addHlHl), ([0x2A], .ldAIndHlInc), ([0x2B], .decHl),
    ([0x2C], .incL), ([0x2D], .decL), ([0x2E, 0x9E], .ldLN8 0x9E), ([0x2F], .cpl)] = true := by decide

/-- Slots 30 to 3F (R112 to R127). -/
theorem test_decode_30_to_3F : decodes [
    ([0x30, 0x9E], .jrNcE8 0x9E), ([0x31, 0x34, 0x12], .ldSpN16 0x1234), ([0x32], .ldIndHlDecA), ([0x33], .incSp),
    ([0x34], .incIndHl), ([0x35], .decIndHl), ([0x36, 0x9E], .ldIndHlN8 0x9E), ([0x37], .scf),
    ([0x38, 0x9E], .jrCE8 0x9E), ([0x39], .addHlSp), ([0x3A], .ldAIndHlDec), ([0x3B], .decSp),
    ([0x3C], .incA), ([0x3D], .decA), ([0x3E, 0x9E], .ldAN8 0x9E), ([0x3F], .ccf)] = true := by decide

/-- Slots 40 to 4F (R112 to R127). -/
theorem test_decode_40_to_4F : decodes [
    ([0x40], .ldBB), ([0x41], .ldBC), ([0x42], .ldBD), ([0x43], .ldBE),
    ([0x44], .ldBH), ([0x45], .ldBL), ([0x46], .ldBIndHl), ([0x47], .ldBA),
    ([0x48], .ldCB), ([0x49], .ldCC), ([0x4A], .ldCD), ([0x4B], .ldCE),
    ([0x4C], .ldCH), ([0x4D], .ldCL), ([0x4E], .ldCIndHl), ([0x4F], .ldCA)] = true := by decide

/-- Slots 50 to 5F (R112 to R127). -/
theorem test_decode_50_to_5F : decodes [
    ([0x50], .ldDB), ([0x51], .ldDC), ([0x52], .ldDD), ([0x53], .ldDE),
    ([0x54], .ldDH), ([0x55], .ldDL), ([0x56], .ldDIndHl), ([0x57], .ldDA),
    ([0x58], .ldEB), ([0x59], .ldEC), ([0x5A], .ldED), ([0x5B], .ldEE),
    ([0x5C], .ldEH), ([0x5D], .ldEL), ([0x5E], .ldEIndHl), ([0x5F], .ldEA)] = true := by decide

/-- Slots 60 to 6F (R112 to R127). -/
theorem test_decode_60_to_6F : decodes [
    ([0x60], .ldHB), ([0x61], .ldHC), ([0x62], .ldHD), ([0x63], .ldHE),
    ([0x64], .ldHH), ([0x65], .ldHL), ([0x66], .ldHIndHl), ([0x67], .ldHA),
    ([0x68], .ldLB), ([0x69], .ldLC), ([0x6A], .ldLD), ([0x6B], .ldLE),
    ([0x6C], .ldLH), ([0x6D], .ldLL), ([0x6E], .ldLIndHl), ([0x6F], .ldLA)] = true := by decide

/-- Slots 70 to 7F (R112 to R127). -/
theorem test_decode_70_to_7F : decodes [
    ([0x70], .ldIndHlB), ([0x71], .ldIndHlC), ([0x72], .ldIndHlD), ([0x73], .ldIndHlE),
    ([0x74], .ldIndHlH), ([0x75], .ldIndHlL), ([0x76], .halt), ([0x77], .ldIndHlA),
    ([0x78], .ldAB), ([0x79], .ldAC), ([0x7A], .ldAD), ([0x7B], .ldAE),
    ([0x7C], .ldAH), ([0x7D], .ldAL), ([0x7E], .ldAIndHl), ([0x7F], .ldAA)] = true := by decide

/-- Slots 80 to 8F (R112 to R127). -/
theorem test_decode_80_to_8F : decodes [
    ([0x80], .addAB), ([0x81], .addAC), ([0x82], .addAD), ([0x83], .addAE),
    ([0x84], .addAH), ([0x85], .addAL), ([0x86], .addAIndHl), ([0x87], .addAA),
    ([0x88], .adcAB), ([0x89], .adcAC), ([0x8A], .adcAD), ([0x8B], .adcAE),
    ([0x8C], .adcAH), ([0x8D], .adcAL), ([0x8E], .adcAIndHl), ([0x8F], .adcAA)] = true := by decide

/-- Slots 90 to 9F (R112 to R127). -/
theorem test_decode_90_to_9F : decodes [
    ([0x90], .subAB), ([0x91], .subAC), ([0x92], .subAD), ([0x93], .subAE),
    ([0x94], .subAH), ([0x95], .subAL), ([0x96], .subAIndHl), ([0x97], .subAA),
    ([0x98], .sbcAB), ([0x99], .sbcAC), ([0x9A], .sbcAD), ([0x9B], .sbcAE),
    ([0x9C], .sbcAH), ([0x9D], .sbcAL), ([0x9E], .sbcAIndHl), ([0x9F], .sbcAA)] = true := by decide

/-- Slots A0 to AF (R112 to R127). -/
theorem test_decode_A0_to_AF : decodes [
    ([0xA0], .andAB), ([0xA1], .andAC), ([0xA2], .andAD), ([0xA3], .andAE),
    ([0xA4], .andAH), ([0xA5], .andAL), ([0xA6], .andAIndHl), ([0xA7], .andAA),
    ([0xA8], .xorAB), ([0xA9], .xorAC), ([0xAA], .xorAD), ([0xAB], .xorAE),
    ([0xAC], .xorAH), ([0xAD], .xorAL), ([0xAE], .xorAIndHl), ([0xAF], .xorAA)] = true := by decide

/-- Slots B0 to BF (R112 to R127). -/
theorem test_decode_B0_to_BF : decodes [
    ([0xB0], .orAB), ([0xB1], .orAC), ([0xB2], .orAD), ([0xB3], .orAE),
    ([0xB4], .orAH), ([0xB5], .orAL), ([0xB6], .orAIndHl), ([0xB7], .orAA),
    ([0xB8], .cpAB), ([0xB9], .cpAC), ([0xBA], .cpAD), ([0xBB], .cpAE),
    ([0xBC], .cpAH), ([0xBD], .cpAL), ([0xBE], .cpAIndHl), ([0xBF], .cpAA)] = true := by decide

/-- Slots C0 to CF (R112 to R127). -/
theorem test_decode_C0_to_CF : decodes [
    ([0xC0], .retNz), ([0xC1], .popBc), ([0xC2, 0x34, 0x12], .jpNzA16 0x1234), ([0xC3, 0x34, 0x12], .jpA16 0x1234),
    ([0xC4, 0x34, 0x12], .callNzA16 0x1234), ([0xC5], .pushBc), ([0xC6, 0x9E], .addAN8 0x9E), ([0xC7], .rst00),
    ([0xC8], .retZ), ([0xC9], .ret), ([0xCA, 0x34, 0x12], .jpZA16 0x1234), ([0xCC, 0x34, 0x12], .callZA16 0x1234),
    ([0xCD, 0x34, 0x12], .callA16 0x1234), ([0xCE, 0x9E], .adcAN8 0x9E), ([0xCF], .rst08)] = true := by decide

/-- Slots D0 to DF (R112 to R127). -/
theorem test_decode_D0_to_DF : decodes [
    ([0xD0], .retNc), ([0xD1], .popDe), ([0xD2, 0x34, 0x12], .jpNcA16 0x1234), ([0xD3], .unimplementedD3),
    ([0xD4, 0x34, 0x12], .callNcA16 0x1234), ([0xD5], .pushDe), ([0xD6, 0x9E], .subAN8 0x9E), ([0xD7], .rst10),
    ([0xD8], .retC), ([0xD9], .reti), ([0xDA, 0x34, 0x12], .jpCA16 0x1234), ([0xDB], .unimplementedDB),
    ([0xDC, 0x34, 0x12], .callCA16 0x1234), ([0xDD], .unimplementedDD), ([0xDE, 0x9E], .sbcAN8 0x9E), ([0xDF], .rst18)] = true := by decide

/-- Slots E0 to EF (R112 to R127). -/
theorem test_decode_E0_to_EF : decodes [
    ([0xE0, 0x9E], .ldhIndA8A 0x9E), ([0xE1], .popHl), ([0xE2], .ldIndCA), ([0xE3], .unimplementedE3),
    ([0xE4], .unimplementedE4), ([0xE5], .pushHl), ([0xE6, 0x9E], .andAN8 0x9E), ([0xE7], .rst20),
    ([0xE8, 0x9E], .addSpE8 0x9E), ([0xE9], .jpHl), ([0xEA, 0x34, 0x12], .ldIndA16A 0x1234), ([0xEB], .unimplementedEB),
    ([0xEC], .unimplementedEC), ([0xED], .unimplementedED), ([0xEE, 0x9E], .xorAN8 0x9E), ([0xEF], .rst28)] = true := by decide

/-- Slots F0 to FF (R112 to R127). -/
theorem test_decode_F0_to_FF : decodes [
    ([0xF0, 0x9E], .ldhAIndA8 0x9E), ([0xF1], .popAf), ([0xF2], .ldAIndC), ([0xF3], .di),
    ([0xF4], .unimplementedF4), ([0xF5], .pushAf), ([0xF6, 0x9E], .orAN8 0x9E), ([0xF7], .rst30),
    ([0xF8, 0x9E], .ldHlSpE8 0x9E), ([0xF9], .ldSpHl), ([0xFA, 0x34, 0x12], .ldAIndA16 0x1234), ([0xFB], .ei),
    ([0xFC], .unimplementedFC), ([0xFD], .unimplementedFD), ([0xFE, 0x9E], .cpAN8 0x9E), ([0xFF], .rst38)] = true := by decide

/-- Prefixed slots CB 00 to 0F (R112 to R127). -/
theorem test_decode_cb_00_to_0F : decodes [
    ([0xCB, 0x00], .cbRlcB), ([0xCB, 0x01], .cbRlcC), ([0xCB, 0x02], .cbRlcD), ([0xCB, 0x03], .cbRlcE),
    ([0xCB, 0x04], .cbRlcH), ([0xCB, 0x05], .cbRlcL), ([0xCB, 0x06], .cbRlcIndHl), ([0xCB, 0x07], .cbRlcA),
    ([0xCB, 0x08], .cbRrcB), ([0xCB, 0x09], .cbRrcC), ([0xCB, 0x0A], .cbRrcD), ([0xCB, 0x0B], .cbRrcE),
    ([0xCB, 0x0C], .cbRrcH), ([0xCB, 0x0D], .cbRrcL), ([0xCB, 0x0E], .cbRrcIndHl), ([0xCB, 0x0F], .cbRrcA)] = true := by decide

/-- Prefixed slots CB 10 to 1F (R112 to R127). -/
theorem test_decode_cb_10_to_1F : decodes [
    ([0xCB, 0x10], .cbRlB), ([0xCB, 0x11], .cbRlC), ([0xCB, 0x12], .cbRlD), ([0xCB, 0x13], .cbRlE),
    ([0xCB, 0x14], .cbRlH), ([0xCB, 0x15], .cbRlL), ([0xCB, 0x16], .cbRlIndHl), ([0xCB, 0x17], .cbRlA),
    ([0xCB, 0x18], .cbRrB), ([0xCB, 0x19], .cbRrC), ([0xCB, 0x1A], .cbRrD), ([0xCB, 0x1B], .cbRrE),
    ([0xCB, 0x1C], .cbRrH), ([0xCB, 0x1D], .cbRrL), ([0xCB, 0x1E], .cbRrIndHl), ([0xCB, 0x1F], .cbRrA)] = true := by decide

/-- Prefixed slots CB 20 to 2F (R112 to R127). -/
theorem test_decode_cb_20_to_2F : decodes [
    ([0xCB, 0x20], .cbSlaB), ([0xCB, 0x21], .cbSlaC), ([0xCB, 0x22], .cbSlaD), ([0xCB, 0x23], .cbSlaE),
    ([0xCB, 0x24], .cbSlaH), ([0xCB, 0x25], .cbSlaL), ([0xCB, 0x26], .cbSlaIndHl), ([0xCB, 0x27], .cbSlaA),
    ([0xCB, 0x28], .cbSraB), ([0xCB, 0x29], .cbSraC), ([0xCB, 0x2A], .cbSraD), ([0xCB, 0x2B], .cbSraE),
    ([0xCB, 0x2C], .cbSraH), ([0xCB, 0x2D], .cbSraL), ([0xCB, 0x2E], .cbSraIndHl), ([0xCB, 0x2F], .cbSraA)] = true := by decide

/-- Prefixed slots CB 30 to 3F (R112 to R127). -/
theorem test_decode_cb_30_to_3F : decodes [
    ([0xCB, 0x30], .cbSwapB), ([0xCB, 0x31], .cbSwapC), ([0xCB, 0x32], .cbSwapD), ([0xCB, 0x33], .cbSwapE),
    ([0xCB, 0x34], .cbSwapH), ([0xCB, 0x35], .cbSwapL), ([0xCB, 0x36], .cbSwapIndHl), ([0xCB, 0x37], .cbSwapA),
    ([0xCB, 0x38], .cbSrlB), ([0xCB, 0x39], .cbSrlC), ([0xCB, 0x3A], .cbSrlD), ([0xCB, 0x3B], .cbSrlE),
    ([0xCB, 0x3C], .cbSrlH), ([0xCB, 0x3D], .cbSrlL), ([0xCB, 0x3E], .cbSrlIndHl), ([0xCB, 0x3F], .cbSrlA)] = true := by decide

/-- Prefixed slots CB 40 to 4F (R112 to R127). -/
theorem test_decode_cb_40_to_4F : decodes [
    ([0xCB, 0x40], .cbBit0B), ([0xCB, 0x41], .cbBit0C), ([0xCB, 0x42], .cbBit0D), ([0xCB, 0x43], .cbBit0E),
    ([0xCB, 0x44], .cbBit0H), ([0xCB, 0x45], .cbBit0L), ([0xCB, 0x46], .cbBit0IndHl), ([0xCB, 0x47], .cbBit0A),
    ([0xCB, 0x48], .cbBit1B), ([0xCB, 0x49], .cbBit1C), ([0xCB, 0x4A], .cbBit1D), ([0xCB, 0x4B], .cbBit1E),
    ([0xCB, 0x4C], .cbBit1H), ([0xCB, 0x4D], .cbBit1L), ([0xCB, 0x4E], .cbBit1IndHl), ([0xCB, 0x4F], .cbBit1A)] = true := by decide

/-- Prefixed slots CB 50 to 5F (R112 to R127). -/
theorem test_decode_cb_50_to_5F : decodes [
    ([0xCB, 0x50], .cbBit2B), ([0xCB, 0x51], .cbBit2C), ([0xCB, 0x52], .cbBit2D), ([0xCB, 0x53], .cbBit2E),
    ([0xCB, 0x54], .cbBit2H), ([0xCB, 0x55], .cbBit2L), ([0xCB, 0x56], .cbBit2IndHl), ([0xCB, 0x57], .cbBit2A),
    ([0xCB, 0x58], .cbBit3B), ([0xCB, 0x59], .cbBit3C), ([0xCB, 0x5A], .cbBit3D), ([0xCB, 0x5B], .cbBit3E),
    ([0xCB, 0x5C], .cbBit3H), ([0xCB, 0x5D], .cbBit3L), ([0xCB, 0x5E], .cbBit3IndHl), ([0xCB, 0x5F], .cbBit3A)] = true := by decide

/-- Prefixed slots CB 60 to 6F (R112 to R127). -/
theorem test_decode_cb_60_to_6F : decodes [
    ([0xCB, 0x60], .cbBit4B), ([0xCB, 0x61], .cbBit4C), ([0xCB, 0x62], .cbBit4D), ([0xCB, 0x63], .cbBit4E),
    ([0xCB, 0x64], .cbBit4H), ([0xCB, 0x65], .cbBit4L), ([0xCB, 0x66], .cbBit4IndHl), ([0xCB, 0x67], .cbBit4A),
    ([0xCB, 0x68], .cbBit5B), ([0xCB, 0x69], .cbBit5C), ([0xCB, 0x6A], .cbBit5D), ([0xCB, 0x6B], .cbBit5E),
    ([0xCB, 0x6C], .cbBit5H), ([0xCB, 0x6D], .cbBit5L), ([0xCB, 0x6E], .cbBit5IndHl), ([0xCB, 0x6F], .cbBit5A)] = true := by decide

/-- Prefixed slots CB 70 to 7F (R112 to R127). -/
theorem test_decode_cb_70_to_7F : decodes [
    ([0xCB, 0x70], .cbBit6B), ([0xCB, 0x71], .cbBit6C), ([0xCB, 0x72], .cbBit6D), ([0xCB, 0x73], .cbBit6E),
    ([0xCB, 0x74], .cbBit6H), ([0xCB, 0x75], .cbBit6L), ([0xCB, 0x76], .cbBit6IndHl), ([0xCB, 0x77], .cbBit6A),
    ([0xCB, 0x78], .cbBit7B), ([0xCB, 0x79], .cbBit7C), ([0xCB, 0x7A], .cbBit7D), ([0xCB, 0x7B], .cbBit7E),
    ([0xCB, 0x7C], .cbBit7H), ([0xCB, 0x7D], .cbBit7L), ([0xCB, 0x7E], .cbBit7IndHl), ([0xCB, 0x7F], .cbBit7A)] = true := by decide

/-- Prefixed slots CB 80 to 8F (R112 to R127). -/
theorem test_decode_cb_80_to_8F : decodes [
    ([0xCB, 0x80], .cbRes0B), ([0xCB, 0x81], .cbRes0C), ([0xCB, 0x82], .cbRes0D), ([0xCB, 0x83], .cbRes0E),
    ([0xCB, 0x84], .cbRes0H), ([0xCB, 0x85], .cbRes0L), ([0xCB, 0x86], .cbRes0IndHl), ([0xCB, 0x87], .cbRes0A),
    ([0xCB, 0x88], .cbRes1B), ([0xCB, 0x89], .cbRes1C), ([0xCB, 0x8A], .cbRes1D), ([0xCB, 0x8B], .cbRes1E),
    ([0xCB, 0x8C], .cbRes1H), ([0xCB, 0x8D], .cbRes1L), ([0xCB, 0x8E], .cbRes1IndHl), ([0xCB, 0x8F], .cbRes1A)] = true := by decide

/-- Prefixed slots CB 90 to 9F (R112 to R127). -/
theorem test_decode_cb_90_to_9F : decodes [
    ([0xCB, 0x90], .cbRes2B), ([0xCB, 0x91], .cbRes2C), ([0xCB, 0x92], .cbRes2D), ([0xCB, 0x93], .cbRes2E),
    ([0xCB, 0x94], .cbRes2H), ([0xCB, 0x95], .cbRes2L), ([0xCB, 0x96], .cbRes2IndHl), ([0xCB, 0x97], .cbRes2A),
    ([0xCB, 0x98], .cbRes3B), ([0xCB, 0x99], .cbRes3C), ([0xCB, 0x9A], .cbRes3D), ([0xCB, 0x9B], .cbRes3E),
    ([0xCB, 0x9C], .cbRes3H), ([0xCB, 0x9D], .cbRes3L), ([0xCB, 0x9E], .cbRes3IndHl), ([0xCB, 0x9F], .cbRes3A)] = true := by decide

/-- Prefixed slots CB A0 to AF (R112 to R127). -/
theorem test_decode_cb_A0_to_AF : decodes [
    ([0xCB, 0xA0], .cbRes4B), ([0xCB, 0xA1], .cbRes4C), ([0xCB, 0xA2], .cbRes4D), ([0xCB, 0xA3], .cbRes4E),
    ([0xCB, 0xA4], .cbRes4H), ([0xCB, 0xA5], .cbRes4L), ([0xCB, 0xA6], .cbRes4IndHl), ([0xCB, 0xA7], .cbRes4A),
    ([0xCB, 0xA8], .cbRes5B), ([0xCB, 0xA9], .cbRes5C), ([0xCB, 0xAA], .cbRes5D), ([0xCB, 0xAB], .cbRes5E),
    ([0xCB, 0xAC], .cbRes5H), ([0xCB, 0xAD], .cbRes5L), ([0xCB, 0xAE], .cbRes5IndHl), ([0xCB, 0xAF], .cbRes5A)] = true := by decide

/-- Prefixed slots CB B0 to BF (R112 to R127). -/
theorem test_decode_cb_B0_to_BF : decodes [
    ([0xCB, 0xB0], .cbRes6B), ([0xCB, 0xB1], .cbRes6C), ([0xCB, 0xB2], .cbRes6D), ([0xCB, 0xB3], .cbRes6E),
    ([0xCB, 0xB4], .cbRes6H), ([0xCB, 0xB5], .cbRes6L), ([0xCB, 0xB6], .cbRes6IndHl), ([0xCB, 0xB7], .cbRes6A),
    ([0xCB, 0xB8], .cbRes7B), ([0xCB, 0xB9], .cbRes7C), ([0xCB, 0xBA], .cbRes7D), ([0xCB, 0xBB], .cbRes7E),
    ([0xCB, 0xBC], .cbRes7H), ([0xCB, 0xBD], .cbRes7L), ([0xCB, 0xBE], .cbRes7IndHl), ([0xCB, 0xBF], .cbRes7A)] = true := by decide

/-- Prefixed slots CB C0 to CF (R112 to R127). -/
theorem test_decode_cb_C0_to_CF : decodes [
    ([0xCB, 0xC0], .cbSet0B), ([0xCB, 0xC1], .cbSet0C), ([0xCB, 0xC2], .cbSet0D), ([0xCB, 0xC3], .cbSet0E),
    ([0xCB, 0xC4], .cbSet0H), ([0xCB, 0xC5], .cbSet0L), ([0xCB, 0xC6], .cbSet0IndHl), ([0xCB, 0xC7], .cbSet0A),
    ([0xCB, 0xC8], .cbSet1B), ([0xCB, 0xC9], .cbSet1C), ([0xCB, 0xCA], .cbSet1D), ([0xCB, 0xCB], .cbSet1E),
    ([0xCB, 0xCC], .cbSet1H), ([0xCB, 0xCD], .cbSet1L), ([0xCB, 0xCE], .cbSet1IndHl), ([0xCB, 0xCF], .cbSet1A)] = true := by decide

/-- Prefixed slots CB D0 to DF (R112 to R127). -/
theorem test_decode_cb_D0_to_DF : decodes [
    ([0xCB, 0xD0], .cbSet2B), ([0xCB, 0xD1], .cbSet2C), ([0xCB, 0xD2], .cbSet2D), ([0xCB, 0xD3], .cbSet2E),
    ([0xCB, 0xD4], .cbSet2H), ([0xCB, 0xD5], .cbSet2L), ([0xCB, 0xD6], .cbSet2IndHl), ([0xCB, 0xD7], .cbSet2A),
    ([0xCB, 0xD8], .cbSet3B), ([0xCB, 0xD9], .cbSet3C), ([0xCB, 0xDA], .cbSet3D), ([0xCB, 0xDB], .cbSet3E),
    ([0xCB, 0xDC], .cbSet3H), ([0xCB, 0xDD], .cbSet3L), ([0xCB, 0xDE], .cbSet3IndHl), ([0xCB, 0xDF], .cbSet3A)] = true := by decide

/-- Prefixed slots CB E0 to EF (R112 to R127). -/
theorem test_decode_cb_E0_to_EF : decodes [
    ([0xCB, 0xE0], .cbSet4B), ([0xCB, 0xE1], .cbSet4C), ([0xCB, 0xE2], .cbSet4D), ([0xCB, 0xE3], .cbSet4E),
    ([0xCB, 0xE4], .cbSet4H), ([0xCB, 0xE5], .cbSet4L), ([0xCB, 0xE6], .cbSet4IndHl), ([0xCB, 0xE7], .cbSet4A),
    ([0xCB, 0xE8], .cbSet5B), ([0xCB, 0xE9], .cbSet5C), ([0xCB, 0xEA], .cbSet5D), ([0xCB, 0xEB], .cbSet5E),
    ([0xCB, 0xEC], .cbSet5H), ([0xCB, 0xED], .cbSet5L), ([0xCB, 0xEE], .cbSet5IndHl), ([0xCB, 0xEF], .cbSet5A)] = true := by decide

/-- Prefixed slots CB F0 to FF (R112 to R127). -/
theorem test_decode_cb_F0_to_FF : decodes [
    ([0xCB, 0xF0], .cbSet6B), ([0xCB, 0xF1], .cbSet6C), ([0xCB, 0xF2], .cbSet6D), ([0xCB, 0xF3], .cbSet6E),
    ([0xCB, 0xF4], .cbSet6H), ([0xCB, 0xF5], .cbSet6L), ([0xCB, 0xF6], .cbSet6IndHl), ([0xCB, 0xF7], .cbSet6A),
    ([0xCB, 0xF8], .cbSet7B), ([0xCB, 0xF9], .cbSet7C), ([0xCB, 0xFA], .cbSet7D), ([0xCB, 0xFB], .cbSet7E),
    ([0xCB, 0xFC], .cbSet7H), ([0xCB, 0xFD], .cbSet7L), ([0xCB, 0xFE], .cbSet7IndHl), ([0xCB, 0xFF], .cbSet7A)] = true := by decide

/-- A word of the table: the opcode, and 0xCB first for a prefixed row (log 6). -/
theorem test_decodeTableWord : (decide (decodeTableWord 8 0x27 = some .daa) &&
    decide (decodeTableWord 16 0xCB37 = some .cbSwapA) && decide (decodeTableWord 8 0x01 = some (.ldBcN16 0)) &&
    decide (decodeTableWord 8 0xD3 = some .unimplementedD3)) = true := by decide

/-- A list too short for its opcode is turned away by name (log 13). -/
theorem test_decode_truncated : decide (decode [] = .error .noBytes) && decide (decode [0xCD, 0x34] = .error (.truncated 0xCD)) = true := by
  decide

/-! ## One step: vectors of 95_test_vectors.md §3 -/

/-- V1 (R201). -/
theorem test_v001_ld_c_b : steps (code { cpu with b := 0x12 } [0x48])
    (fun s => { s with c := 0x12, pc := 0x0101, cycleCount := 4 }) (.ok 4) = true := by decide

/-- V3 (R202). -/
theorem test_v003_ld_d_at_hl : steps (code (poke { cpu with h := 0xC0, l := 0x00 } 0xC000 0x5A) [0x56])
    (fun s => { s with d := 0x5A, pc := 0x0101, cycleCount := 8 }) (.ok 8) = true := by decide

/-- V4 (R202). -/
theorem test_v004_ld_a_at_hl : steps (code (poke (pokeBoot { cpu with overlayActive := true, h := 0x00, l := 0x10 } 0x10 0xAB) 0x0010 0x11) [0x7E])
    (fun s => { s with a := 0xAB, pc := 0x0101, cycleCount := 8 }) (.ok 8) = true := by decide

/-- V8 (R204). -/
theorem test_v008_ld_b_0xa5 : steps (code cpu [0x06, 0xA5])
    (fun s => { s with b := 0xA5, pc := 0x0102, cycleCount := 8 }) (.ok 8) = true := by decide

/-- V10 (R205). -/
theorem test_v010_ld_at_hl_0x99 : steps (code { cpu with h := 0xC0, l := 0x10 } [0x36, 0x99])
    (fun s => { poke s 0xC010 0x99 with pc := 0x0102, cycleCount := 12 }) (.ok 12) = true := by decide

/-- V11 (R206). -/
theorem test_v011_ld_a_at_bc : steps (code (poke { cpu with b := 0xD0, c := 0x00 } 0xD000 0x07) [0x0A])
    (fun s => { s with a := 0x07, pc := 0x0101, cycleCount := 8 }) (.ok 8) = true := by decide

/-- V12 (R207). -/
theorem test_v012_ld_a_at_de : steps (code (poke { cpu with d := 0x01, e := 0x04 } 0x0104 0xCE) [0x1A])
    (fun s => { s with a := 0xCE, pc := 0x0101, cycleCount := 8 }) (.ok 8) = true := by decide

/-- V13 (R208). -/
theorem test_v013_ld_at_bc_a : steps (code { cpu with b := 0xC0, c := 0x00, a := 0x33 } [0x02])
    (fun s => { poke s 0xC000 0x33 with pc := 0x0101, cycleCount := 8 }) (.ok 8) = true := by decide

/-- V14 (R209). -/
theorem test_v014_ld_at_de_a : steps (code { cpu with d := 0x80, e := 0x00, a := 0xFF } [0x12])
    (fun s => { poke s 0x8000 0xFF with pc := 0x0101, cycleCount := 8 }) (.ok 8) = true := by decide

/-- V15 (R210). -/
theorem test_v015_ld_a_at_0xff50 : steps (code (poke cpu 0xFF50 0x01) [0xFA, 0x50, 0xFF])
    (fun s => { s with a := 0x01, pc := 0x0103, cycleCount := 16 }) (.ok 16) = true := by decide

/-- V16 (R211). -/
theorem test_v016_ld_at_0x0000_a : steps (code { cpu with overlayActive := true, a := 0x77 } [0xEA, 0x00, 0x00])
    (fun s => { poke s 0x0000 0x77 with pc := 0x0103, cycleCount := 16 }) (.ok 16) = true := by decide

/-- V18 (R212). -/
theorem test_v018_ldh_a_at_0x44 : steps (code (poke cpu 0xFF44 0x90) [0xF0, 0x44])
    (fun s => { s with a := 0x90, pc := 0x0102, cycleCount := 12 }) (.ok 12) = true := by decide

/-- V20 (R213). -/
theorem test_v020_ldh_at_0xff_a : steps (code { cpu with a := 0x1F } [0xE0, 0xFF])
    (fun s => { poke s 0xFFFF 0x1F with pc := 0x0102, cycleCount := 12 }) (.ok 12) = true := by decide

/-- V21 (R214). -/
theorem test_v021_ld_a_at_c : steps (code (poke { cpu with c := 0x80 } 0xFF80 0x11) [0xF2])
    (fun s => { s with a := 0x11, pc := 0x0101, cycleCount := 8 }) (.ok 8) = true := by decide

/-- V22 (R215). -/
theorem test_v022_ld_at_c_a : steps (code { cpu with overlayActive := true, c := 0x50, a := 0x03 } [0xE2])
    (fun s => { poke s 0xFF50 0x03 with pc := 0x0101, overlayActive := false, cycleCount := 8 }) (.ok 8) = true := by decide

/-- V24 (R216). -/
theorem test_v024_ld_hli_a : steps (code { cpu with h := 0xFF, l := 0xFF, a := 0x42 } [0x22])
    (fun s => { poke s 0xFFFF 0x42 with h := 0x00, l := 0x00, pc := 0x0101, cycleCount := 8 }) (.ok 8) = true := by decide

/-- V26 (R217). -/
theorem test_v026_ld_hld_a : steps (code { cpu with h := 0x00, l := 0x00, a := 0x42 } [0x32])
    (fun s => { poke s 0x0000 0x42 with h := 0xFF, l := 0xFF, pc := 0x0101, cycleCount := 8 }) (.ok 8) = true := by decide

/-- V27 (R218). -/
theorem test_v027_ld_a_hli : steps (code (poke { cpu with h := 0xC0, l := 0x00 } 0xC000 0x77) [0x2A])
    (fun s => { s with a := 0x77, l := 0x01, pc := 0x0101, cycleCount := 8 }) (.ok 8) = true := by decide

/-- V28 (R219). -/
theorem test_v028_ld_a_hld : steps (code (poke { cpu with h := 0xC0, l := 0x01 } 0xC001 0x55) [0x3A])
    (fun s => { s with a := 0x55, l := 0x00, pc := 0x0101, cycleCount := 8 }) (.ok 8) = true := by decide

/-- V29 (R220). -/
theorem test_v029_ld_bc_0xabcd : steps (code cpu [0x01, 0xCD, 0xAB])
    (fun s => { s with b := 0xAB, c := 0xCD, pc := 0x0103, cycleCount := 12 }) (.ok 12) = true := by decide

/-- V33 (R221). -/
theorem test_v033_ld_at_0xc100_sp : steps (code { cpu with sp := 0xFFF8 } [0x08, 0x00, 0xC1])
    (fun s => { poke (poke s 0xC100 0xF8) 0xC101 0xFF with pc := 0x0103, cycleCount := 20 }) (.ok 20) = true := by decide

/-- V34 (R221). -/
theorem test_v034_ld_at_0xffff_sp : steps (code { cpu with sp := 0xABCD } [0x08, 0xFF, 0xFF])
    (fun s => { poke (poke s 0x0000 0xAB) 0xFFFF 0xCD with pc := 0x0103, cycleCount := 20 }) (.ok 20) = true := by decide

/-- V35 (R222). -/
theorem test_v035_ld_sp_hl : steps (code { cpu with h := 0xDF, l := 0xFF } [0xF9])
    (fun s => { s with sp := 0xDFFF, pc := 0x0101, cycleCount := 8 }) (.ok 8) = true := by decide

/-- V38 (R252). -/
theorem test_v038_push_hl : steps (code { cpu with h := 0x56, l := 0x78, sp := 0x0001 } [0xE5])
    (fun s => { poke (poke s 0x0000 0x56) 0xFFFF 0x78 with sp := 0xFFFF, pc := 0x0101, cycleCount := 16 }) (.ok 16) = true := by decide

/-- V40 (R253). -/
theorem test_v040_pop_bc : steps (code (poke (poke { cpu with sp := 0xFFFC } 0xFFFC 0x34) 0xFFFD 0x12) [0xC1])
    (fun s => { s with b := 0x12, c := 0x34, sp := 0xFFFE, pc := 0x0101, cycleCount := 12 }) (.ok 12) = true := by decide

/-- V42 (R254). -/
theorem test_v042_pop_af : steps (code (poke (poke { cpu with sp := 0xC000 } 0xC000 0xFF) 0xC001 0x12) [0xF1])
    (fun s => { s with a := 0x12, f := 0xF0, sp := 0xC002, pc := 0x0101, cycleCount := 12 }) (.ok 12) = true := by decide

/-- V47 (R300). -/
theorem test_v047_inc_a : steps (code { cpu with a := 0xFF } [0x3C])
    (fun s => { s with a := 0x00, f := 0xA0, pc := 0x0101, cycleCount := 4 }) (.ok 4) = true := by decide

/-- V48 (R300). -/
theorem test_v048_inc_b : steps (code { cpu with b := 0x00, f := 0x50 } [0x04])
    (fun s => { s with b := 0x01, f := 0x10, pc := 0x0101, cycleCount := 4 }) (.ok 4) = true := by decide

/-- V51 (R301). -/
theorem test_v051_inc_at_hl : steps (code (poke { cpu with h := 0xC0, l := 0x00 } 0xC000 0xFF) [0x34])
    (fun s => { poke s 0xC000 0x00 with f := 0xA0, pc := 0x0101, cycleCount := 12 }) (.ok 12) = true := by decide

/-- V52 (R302). -/
theorem test_v052_dec_b : steps (code { cpu with b := 0x01, f := 0x10 } [0x05])
    (fun s => { s with b := 0x00, f := 0xD0, pc := 0x0101, cycleCount := 4 }) (.ok 4) = true := by decide

/-- V55 (R303). -/
theorem test_v055_dec_at_hl : steps (code (poke { cpu with h := 0xC0, l := 0x00 } 0xC000 0x00) [0x35])
    (fun s => { poke s 0xC000 0xFF with f := 0x60, pc := 0x0101, cycleCount := 12 }) (.ok 12) = true := by decide

/-- V57 (R304). -/
theorem test_v057_inc_bc : steps (code { cpu with b := 0xFF, c := 0xFF, f := 0xA0 } [0x03])
    (fun s => { s with b := 0x00, c := 0x00, pc := 0x0101, cycleCount := 8 }) (.ok 8) = true := by decide

/-- V64 (R305). -/
theorem test_v064_dec_sp : steps (code { cpu with sp := 0x0000 } [0x3B])
    (fun s => { s with sp := 0xFFFF, pc := 0x0101, cycleCount := 8 }) (.ok 8) = true := by decide

/-- V65 (R353). -/
theorem test_v065_add_a_b : steps (code { cpu with a := 0x3A, b := 0xC6 } [0x80])
    (fun s => { s with a := 0x00, f := 0xB0, pc := 0x0101, cycleCount := 4 }) (.ok 4) = true := by decide

/-- V72 (R354). -/
theorem test_v072_adc_a_0x00 : steps (code { cpu with a := 0xFF, f := 0x10 } [0xCE, 0x00])
    (fun s => { s with a := 0x00, f := 0xB0, pc := 0x0102, cycleCount := 8 }) (.ok 8) = true := by decide

/-- V74 (R354). -/
theorem test_v074_adc_a_a : steps (code { cpu with a := 0x80, f := 0x10 } [0x8F])
    (fun s => { s with a := 0x01, pc := 0x0101, cycleCount := 4 }) (.ok 4) = true := by decide

/-- V76 (R355). -/
theorem test_v076_sub_a_0x01 : steps (code { cpu with a := 0x00 } [0xD6, 0x01])
    (fun s => { s with a := 0xFF, f := 0x70, pc := 0x0102, cycleCount := 8 }) (.ok 8) = true := by decide

/-- V81 (R356). -/
theorem test_v081_sbc_a_a : steps (code { cpu with a := 0x42, f := 0x10 } [0x9F])
    (fun s => { s with a := 0xFF, f := 0x70, pc := 0x0101, cycleCount := 4 }) (.ok 4) = true := by decide

/-- V83 (R356). -/
theorem test_v083_sbc_a_0x0f : steps (code { cpu with a := 0x10, f := 0x10 } [0xDE, 0x0F])
    (fun s => { s with a := 0x00, f := 0xE0, pc := 0x0102, cycleCount := 8 }) (.ok 8) = true := by decide

/-- V85 (R357). -/
theorem test_v085_and_a_b : steps (code { cpu with a := 0xF0, b := 0x0F, f := 0x10 } [0xA0])
    (fun s => { s with a := 0x00, f := 0xA0, pc := 0x0101, cycleCount := 4 }) (.ok 4) = true := by decide

/-- V88 (R358). -/
theorem test_v088_xor_a_0xff : steps (code { cpu with a := 0x0F, f := 0x30 } [0xEE, 0xFF])
    (fun s => { s with a := 0xF0, f := 0x00, pc := 0x0102, cycleCount := 8 }) (.ok 8) = true := by decide

/-- V93 (R360). -/
theorem test_v093_cp_a_0x2f : steps (code { cpu with a := 0x30 } [0xFE, 0x2F])
    (fun s => { s with f := 0x60, pc := 0x0102, cycleCount := 8 }) (.ok 8) = true := by decide

/-- V96 (R361). -/
theorem test_v096_add_hl_hl : steps (code { cpu with h := 0x8A, l := 0x23 } [0x29])
    (fun s => { s with h := 0x14, l := 0x46, f := 0x30, pc := 0x0101, cycleCount := 8 }) (.ok 8) = true := by decide

/-- V98 (R361). -/
theorem test_v098_add_hl_sp : steps (code { cpu with h := 0xFF, l := 0xFF, sp := 0x0001, f := 0x40 } [0x39])
    (fun s => { s with h := 0x00, l := 0x00, f := 0x30, pc := 0x0101, cycleCount := 8 }) (.ok 8) = true := by decide

/-- V102 (R362). -/
theorem test_v102_add_sp_minus_1 : steps (code { cpu with sp := 0x0001, f := 0x80 } [0xE8, 0xFF])
    (fun s => { s with f := 0x30, sp := 0x0000, pc := 0x0102, cycleCount := 16 }) (.ok 16) = true := by decide

/-- V103 (R362). -/
theorem test_v103_add_sp_plus_8 : steps (code { cpu with sp := 0x00F8 } [0xE8, 0x08])
    (fun s => { s with f := 0x30, sp := 0x0100, pc := 0x0102, cycleCount := 16 }) (.ok 16) = true := by decide

/-- V106 (R363). -/
theorem test_v106_ld_hl_sp_plus_minus_8 : steps (code { cpu with sp := 0xFFF8 } [0xF8, 0xF8])
    (fun s => { s with h := 0xFF, l := 0xF0, f := 0x30, pc := 0x0102, cycleCount := 12 }) (.ok 12) = true := by decide

/-- V107 (R400). -/
theorem test_v107_rlca : steps (code { cpu with a := 0x85 } [0x07])
    (fun s => { s with a := 0x0B, f := 0x10, pc := 0x0101, cycleCount := 4 }) (.ok 4) = true := by decide

/-- V109 (R401). -/
theorem test_v109_rrca : steps (code { cpu with a := 0x3B } [0x0F])
    (fun s => { s with a := 0x9D, f := 0x10, pc := 0x0101, cycleCount := 4 }) (.ok 4) = true := by decide

/-- V111 (R402). -/
theorem test_v111_rla : steps (code { cpu with a := 0x95, f := 0x10 } [0x17])
    (fun s => { s with a := 0x2B, pc := 0x0101, cycleCount := 4 }) (.ok 4) = true := by decide

/-- V113 (R403). -/
theorem test_v113_rra : steps (code { cpu with a := 0x81 } [0x1F])
    (fun s => { s with a := 0x40, f := 0x10, pc := 0x0101, cycleCount := 4 }) (.ok 4) = true := by decide

/-- V115 (R405). -/
theorem test_v115_rlc_b : steps (code { cpu with b := 0x85 } [0xCB, 0x00])
    (fun s => { s with b := 0x0B, f := 0x10, pc := 0x0102, cycleCount := 8 }) (.ok 8) = true := by decide

/-- V117 (R405). -/
theorem test_v117_rlc_at_hl : steps (code (poke { cpu with h := 0xC0, l := 0x00 } 0xC000 0x80) [0xCB, 0x06])
    (fun s => { poke s 0xC000 0x01 with f := 0x10, pc := 0x0102, cycleCount := 16 }) (.ok 16) = true := by decide

/-- V118 (R406). -/
theorem test_v118_rrc_c : steps (code { cpu with c := 0x01 } [0xCB, 0x09])
    (fun s => { s with c := 0x80, f := 0x10, pc := 0x0102, cycleCount := 8 }) (.ok 8) = true := by decide

/-- V120 (R407). -/
theorem test_v120_rl_l : steps (code { cpu with l := 0x80 } [0xCB, 0x15])
    (fun s => { s with l := 0x00, f := 0x90, pc := 0x0102, cycleCount := 8 }) (.ok 8) = true := by decide

/-- V123 (R408). -/
theorem test_v123_rr_b : steps (code { cpu with b := 0x00, f := 0x10 } [0xCB, 0x18])
    (fun s => { s with b := 0x80, f := 0x00, pc := 0x0102, cycleCount := 8 }) (.ok 8) = true := by decide

/-- V124 (R409). -/
theorem test_v124_sla_d : steps (code { cpu with d := 0x80 } [0xCB, 0x22])
    (fun s => { s with d := 0x00, f := 0x90, pc := 0x0102, cycleCount := 8 }) (.ok 8) = true := by decide

/-- V126 (R410). -/
theorem test_v126_sra_a : steps (code { cpu with a := 0x8A } [0xCB, 0x2F])
    (fun s => { s with a := 0xC5, pc := 0x0102, cycleCount := 8 }) (.ok 8) = true := by decide

/-- V128 (R410). -/
theorem test_v128_sra_at_hl : steps (code (poke { cpu with h := 0xC0, l := 0x00 } 0xC000 0xFF) [0xCB, 0x2E])
    (fun s => { s with f := 0x10, pc := 0x0102, cycleCount := 16 }) (.ok 16) = true := by decide

/-- V131 (R411). -/
theorem test_v131_swap_at_hl : steps (code (poke { cpu with h := 0xC0, l := 0x00, f := 0x10 } 0xC000 0x12) [0xCB, 0x36])
    (fun s => { poke s 0xC000 0x21 with f := 0x00, pc := 0x0102, cycleCount := 16 }) (.ok 16) = true := by decide

/-- V134 (R412). -/
theorem test_v134_srl_at_hl : steps (code (poke { cpu with h := 0xC0, l := 0x00 } 0xC000 0x80) [0xCB, 0x3E])
    (fun s => { poke s 0xC000 0x40 with pc := 0x0102, cycleCount := 16 }) (.ok 16) = true := by decide

/-- V136 (R450). -/
theorem test_v136_bit_7_h : steps (code { cpu with h := 0x7F } [0xCB, 0x7C])
    (fun s => { s with f := 0xA0, pc := 0x0102, cycleCount := 8 }) (.ok 8) = true := by decide

/-- V139 (R450). -/
theorem test_v139_bit_0_at_hl : steps (code (poke { cpu with h := 0xC0, l := 0x00 } 0xC000 0xFE) [0xCB, 0x46])
    (fun s => { s with f := 0xA0, pc := 0x0102, cycleCount := 12 }) (.ok 12) = true := by decide

/-- V140 (R451). -/
theorem test_v140_res_0_a : steps (code { cpu with a := 0xFF, f := 0x50 } [0xCB, 0x87])
    (fun s => { s with a := 0xFE, pc := 0x0102, cycleCount := 8 }) (.ok 8) = true := by decide

/-- V144 (R452). -/
theorem test_v144_set_0_at_hl : steps (code { cpu with overlayActive := true, h := 0xFF, l := 0x50 } [0xCB, 0xC6])
    (fun s => { poke s 0xFF50 0x01 with pc := 0x0102, overlayActive := false, cycleCount := 16 }) (.ok 16) = true := by decide

/-- V146 (R501). -/
theorem test_v146_jp_0x0150 : steps (code cpu [0xC3, 0x50, 0x01])
    (fun s => { s with pc := 0x0150, cycleCount := 16 }) (.ok 16) = true := by decide

/-- V148 (R502). -/
theorem test_v148_jp_nz_0xc000 : steps (code cpu [0xC2, 0x00, 0xC0])
    (fun s => { s with pc := 0xC000, cycleCount := 16 }) (.ok 16) = true := by decide

/-- V149 (R502). -/
theorem test_v149_jp_nz_0xc000 : steps (code { cpu with f := 0x80 } [0xC2, 0x00, 0xC0])
    (fun s => { s with pc := 0x0103, cycleCount := 12 }) (.ok 12) = true := by decide

/-- V155 (R503). -/
theorem test_v155_jp_hl : steps (code { cpu with h := 0x40, l := 0x00 } [0xE9])
    (fun s => { s with pc := 0x4000, cycleCount := 4 }) (.ok 4) = true := by decide

/-- V161 (R505). -/
theorem test_v161_jr_nz_minus_4 : steps (code { cpu with pc := 0x0105 } [0x20, 0xFC])
    (fun s => { s with pc := 0x0103, cycleCount := 12 }) (.ok 12) = true := by decide

/-- V162 (R505). -/
theorem test_v162_jr_nz_minus_4 : steps (code { cpu with pc := 0x0105, f := 0x80 } [0x20, 0xFC])
    (fun s => { s with pc := 0x0107, cycleCount := 8 }) (.ok 8) = true := by decide

/-- V166 (R506). -/
theorem test_v166_call_0x2000 : steps (code { cpu with pc := 0x0150 } [0xCD, 0x00, 0x20])
    (fun s => { poke (poke s 0xFFFC 0x53) 0xFFFD 0x01 with sp := 0xFFFC, pc := 0x2000, cycleCount := 24 }) (.ok 24) = true := by decide

/-- V167 (R506). -/
theorem test_v167_call_0x2000 : steps (code { cpu with pc := 0x0150, sp := 0x0001 } [0xCD, 0x00, 0x20])
    (fun s => { poke (poke s 0x0000 0x01) 0xFFFF 0x53 with sp := 0xFFFF, pc := 0x2000, cycleCount := 24 }) (.ok 24) = true := by decide

/-- V169 (R507). -/
theorem test_v169_call_z_0x2000 : steps (code { cpu with pc := 0x0150 } [0xCC, 0x00, 0x20])
    (fun s => { s with pc := 0x0153, cycleCount := 12 }) (.ok 12) = true := by decide

/-- V173 (R509). -/
theorem test_v173_ret_nz : steps (code (poke (poke { cpu with sp := 0xFFFC } 0xFFFC 0x53) 0xFFFD 0x01) [0xC0])
    (fun s => { s with sp := 0xFFFE, pc := 0x0153, cycleCount := 20 }) (.ok 20) = true := by decide

/-- V174 (R509). -/
theorem test_v174_ret_z : steps (code (poke (poke { cpu with sp := 0xFFFC } 0xFFFC 0x53) 0xFFFD 0x01) [0xC8])
    (fun s => { s with pc := 0x0101, cycleCount := 8 }) (.ok 8) = true := by decide

/-- V177 (R510). -/
theorem test_v177_reti : steps (code (poke (poke { cpu with sp := 0xFFFC } 0xFFFC 0x53) 0xFFFD 0x01) [0xD9])
    (fun s => { s with sp := 0xFFFE, pc := 0x0153, ime := true, cycleCount := 16 }) (.ok 16) = true := by decide

/-- V179 (R511). -/
theorem test_v179_rst_08h : steps (code { cpu with pc := 0x0200 } [0xCF])
    (fun s => { poke (poke s 0xFFFC 0x01) 0xFFFD 0x02 with sp := 0xFFFC, pc := 0x0008, cycleCount := 16 }) (.ok 16) = true := by decide

/-- V187 (R550). -/
theorem test_v187_nop : steps (code { cpu with pc := 0xFFFF } [0x00])
    (fun s => { s with pc := 0x0000, cycleCount := 4 }) (.ok 4) = true := by decide

/-- V189 (R551). -/
theorem test_v189_daa : steps (code { cpu with a := 0x9A } [0x27])
    (fun s => { s with a := 0x00, f := 0x90, pc := 0x0101, cycleCount := 4 }) (.ok 4) = true := by decide

/-- V193 (R551). -/
theorem test_v193_daa : steps (code { cpu with a := 0xCC, f := 0x70 } [0x27])
    (fun s => { s with a := 0x66, f := 0x50, pc := 0x0101, cycleCount := 4 }) (.ok 4) = true := by decide

/-- V195 (R552). -/
theorem test_v195_cpl : steps (code { cpu with a := 0x35 } [0x2F])
    (fun s => { s with a := 0xCA, f := 0x60, pc := 0x0101, cycleCount := 4 }) (.ok 4) = true := by decide

/-- V197 (R553). -/
theorem test_v197_scf : steps (code { cpu with f := 0xE0 } [0x37])
    (fun s => { s with f := 0x90, pc := 0x0101, cycleCount := 4 }) (.ok 4) = true := by decide

/-- V199 (R554). -/
theorem test_v199_ccf : steps (code { cpu with f := 0x80 } [0x3F])
    (fun s => { s with f := 0x90, pc := 0x0101, cycleCount := 4 }) (.ok 4) = true := by decide

/-- V200 (R555). -/
theorem test_v200_halt : steps (code { cpu with pc := 0x0200 } [0x76])
    (fun s => { s with pc := 0x0201, runState := .halted, cycleCount := 4 }) (.ok 4) = true := by decide

/-- V203 (R556). -/
theorem test_v203_stop : steps (code { cpu with pc := 0x0300 } [0x10, 0xAA])
    (fun s => { s with pc := 0x0302, runState := .stopped, cycleCount := 4 }) (.ok 4) = true := by decide

/-- V205 (R557). -/
theorem test_v205_di : steps (code { cpu with imePending := true } [0xF3])
    (fun s => { s with pc := 0x0101, imePending := false, cycleCount := 4 }) (.ok 4) = true := by decide

/-- V206 (R558). -/
theorem test_v206_ei : steps (code cpu [0xFB])
    (fun s => { s with pc := 0x0101, imePending := true, cycleCount := 4 }) (.ok 4) = true := by decide

/-- V211 (R559). -/
theorem test_v211_at_unimplemented : steps (code { cpu with pc := 0x0150, a := 0x12 } [0xD3])
    (fun s => { s with pc := 0x0150, runState := .fatal, fatalOpcode := 0xD3, fatalPc := 0x0150 }) (.fatal 0xD3 0x0150) = true := by decide

/-- V222 (R73 and R141). -/
theorem test_v222_inc_a : steps (pokeBoot { cpu with pc := 0x0000, overlayActive := true } 0x00 0x3C)
    (fun s => { s with a := 0x01, pc := 0x0001, cycleCount := 4 }) (.ok 4) = true := by decide

/-- V224 (R141 and R142). -/
theorem test_v224_swap_a : steps (poke (poke { cpu with pc := 0xFFFF, a := 0xF0 } 0xFFFF 0xCB) 0x0000 0x37)
    (fun s => { s with a := 0x0F, pc := 0x0001, cycleCount := 8 }) (.ok 8) = true := by decide


/-- Entries of the table as its spelling has them: LD (HL+),A; BIT 7,(HL); no mnemonic and no cost for 0xD3. -/
theorem test_table_entries :
    decide (Instr.ldIndHlIncA.row = ⟨0x22, some .ld, [⟨.pair .hl, true, .increment⟩, ⟨.reg .a, false, .none⟩], 1, [8],
      .keep, .keep, .keep, .keep⟩) &&
    decide (Instr.cbBit7IndHl.row.operands = [⟨.bit 7, false, .none⟩, ⟨.pair .hl, true, .none⟩]) &&
    decide (Instr.unimplementedD3.row.mnemonic = none) && decide (Instr.unimplementedD3.row.cycles = []) = true := by
  decide

/-! ## The host's placement, memory and reset -/

/-- The first step after reset runs the placed instruction, through the overlay, and reset itself lists nothing. -/
theorem test_withFetchWord_runs_first : nextHas (step (State.reset.withFetchWord 8 0x3C)) (fun t =>
    decide (t.a = 0x01) && decide (t.pc = 0x0001)) = true := by decide

theorem test_withFetchWord_prefixed : nextHas (step ({ State.reset with a := 0xF0 }.withFetchWord 16 0xCB37)) (fun t =>
    decide (t.a = 0x0F) && decide (t.pc = 0x0002)) = true := by decide

/-- The reset table (R50). -/
theorem test_reset_table : decide (State.reset.pc = 0x0000) && decide (State.reset.sp = 0xFFFE) &&
    decide (State.reset.runState = .running) && decide (State.reset.af = 0x0000) && State.reset.overlayActive &&
    !State.reset.ime && !State.reset.imePending && decide (State.reset.cycleCount = 0) = true := by decide

/-- Writing what an unlisted byte reads as takes the cell off; cells stay in rising order. -/
theorem test_memory_is_canonical :
    decide (Memory.write (Memory.write (Memory.write [] 9 1) 4 2) 9 0 = [(4, 2)]) &&
    decide (Memory.write [(4, 2)] 1 7 = [(1, 7), (4, 2)]) && !Memory.wf [(4, 2), (4, 3)] && !Memory.wf [(4, 0)] &&
    !Memory.wf [(65536, 1)] = true := by decide

/-- A pending EI takes effect at the end of the next step, HALT included (V210); an idle step does nothing more. -/
theorem test_v210_ei_pending_then_halt : steps (code { cpu with imePending := true } [0x76])
    (fun s => { s with pc := 0x0101, runState := .halted, ime := true, imePending := false, cycleCount := 4 }) (.ok 4) = true := by
  decide

/-- The second step in FATAL has no successor and repeats the diagnostic (V229). -/
theorem test_v229_fatal_again :
    decide (stepResult { cpu with runState := .fatal, fatalOpcode := 0xD3, fatalPc := 0x0100 } = some (.fatal 0xD3 0x0100)) = true := by
  decide

/-! ## Witnesses: the hypotheses of every statement are met by a concrete state -/

/-- Both clauses, at their boundary: 257 bytes and 256 bytes; and the cells of an all-0x76 `MEM_INIT`. -/
theorem witness_ResetBuildsTheTableState :
    256 < (List.replicate 257 (0x3E : Byte)).length ∧ (List.replicate 256 (0x3E : Byte)).length ≤ 256 ∧
    (∀ c ∈ (List.range 65536).map fun a => ((a, 0x76) : Host.Cell), c.2 = (fun _ => 0x76#8) c.1) ∧
    (∀ a < 65536, a ∈ ((List.range 65536).map fun a => ((a, 0x76) : Host.Cell)).map Prod.fst) := by
  refine ⟨?_, ?_, ?_, ?_⟩
  · rw [List.length_replicate]
    decide
  · rw [List.length_replicate]
  · intro c hc
    obtain ⟨a, -, rfl⟩ := List.mem_map.mp hc
    rfl
  · intro a ha
    exact List.mem_map.mpr ⟨(a, 0x76), List.mem_map.mpr ⟨a, List.mem_range.mpr ha, rfl⟩, rfl⟩

theorem witness_ResetMeetsInvariant : ∃ t, construct [0x31, 0xFE] [(0xC000, 0x07), (0xFFFF, 0x01)] = .ok t ∧
    t.boot = [(0, 0x31), (1, 0xFE)] ∧ t.main = [(0xC000, 0x07), (0xFFFF, 0x01)] := ⟨_, rfl, by decide, by decide⟩

/-- The overlay's last address and the first beyond it; the latch address with bit 0 set and clear. -/
theorem witness_ReadAfterWriteThroughOverlay :
    decide ((poke (pokeBoot { cpu with overlayActive := true } 0x00FF 0xAA) 0x0100 0xBB).readByte 0x00FF = 0xAA) &&
    decide ((poke (pokeBoot { cpu with overlayActive := true } 0x00FF 0xAA) 0x0100 0xBB).readByte 0x0100 = 0xBB) &&
    decide (Memory.read ({ cpu with overlayActive := true }.writeByte 0x00FF 0x77).main 0x00FF = 0x77) &&
    decide (({ cpu with overlayActive := true }.writeByte 0xFF50 0x01).overlayActive = false) &&
    decide (({ cpu with overlayActive := true }.writeByte 0xFF50 0xFE).overlayActive = true) = true := by
  decide

/-- The pushed bytes seen: no overlay, and the lowest stack above it. Hidden: the highest stack below it. Straddling its edge: the low byte hidden (SP = 0x0101), the high byte hidden (SP = 0x0001). -/
theorem witness_PushThenPopRestores :
    (∃ t, exec .pushBc { cpu with sp := 0x0001 } = .next t ∧ t.overlayActive = false) ∧
    (∃ t, exec .pushBc { cpu with overlayActive := true, sp := 0x0102 } = .next t ∧
      (0x00FF < ((0x0102 : Word) - 1).toNat ∧ 0x00FF < ((0x0102 : Word) - 2).toNat)) ∧
    (∃ t, exec .pushAf { cpu with overlayActive := true, sp := 0x0100 } = .next t ∧ t.overlayActive = true ∧
      ((0x0100 : Word) - 1).toNat ≤ 0x00FF ∧ ((0x0100 : Word) - 2).toNat ≤ 0x00FF) ∧
    (∃ t, exec .pushDe { cpu with overlayActive := true, sp := 0x0101 } = .next t ∧ t.overlayActive = true ∧
      0x00FF < ((0x0101 : Word) - 1).toNat ∧ ((0x0101 : Word) - 2).toNat ≤ 0x00FF) ∧
    (∃ t, exec .pushHl { cpu with overlayActive := true, sp := 0x0001 } = .next t ∧ t.overlayActive = true ∧
      ((0x0001 : Word) - 1).toNat ≤ 0x00FF ∧ 0x00FF < ((0x0001 : Word) - 2).toNat) :=
  ⟨⟨_, rfl, by decide⟩, ⟨_, rfl, by decide⟩, ⟨_, rfl, by decide, by decide, by decide⟩,
    ⟨_, rfl, by decide, by decide, by decide⟩, ⟨_, rfl, by decide, by decide, by decide⟩⟩

/-- The stores of a statement: an address outside them, the latch unchanged, and the latch falling. -/
theorem witness_Stores :
    (∀ c ∈ [((0xC000 : Word), (0x01 : Byte))], (0xC001 : Word) ≠ c.1) ∧
    (cpu.writeByte 0xC000 0x01).overlayActive = cpu.overlayActive ∧
    ({ cpu with overlayActive := true }.writeByte 0xFF50 0x01).overlayActive = false ∧ 0x00FF < (0x0100 : Word).toNat :=
  ⟨by simp, by decide, by decide, by decide⟩

theorem witness_DecodeOfEncode : Instr.wf (.callNzA16 0x1234) = true := by decide

/-- A byte of each length, and both kinds of slot. -/
theorem witness_LengthFromFirstByte_and_SlotOfFetchedBytes :
    (decodeBytes 0xCB 0xFF 0x00).size = 2 ∧ (decodeBytes 0xF8 0x00 0x00).size = 2 ∧ (decodeBytes 0xFA 0x00 0x00).size = 3 ∧
    (decodeBytes 0xFF 0x00 0x00).size = 1 ∧ (decodeBytes 0xCB 0xFF 0x00).row.slot = 511 ∧
    (decodeBytes 0xFF 0xCB 0x00).row.slot = 255 := by
  decide

/-- Three running states: an ordinary one, one with an EI pending, one on an unimplemented slot. -/
theorem witness_StepRunsInstructionAtPc :
    decide ((code cpu [0xCD, 0x34, 0x12]).runState = .running) &&
    decide (decode [0xCD, 0x34, 0x12] = .ok (.callA16 0x1234, [])) &&
    decide ((code cpu [0xCD, 0x34, 0x12]).readByte 0x0102 = 0x12) &&
    nextHas (step (code { cpu with imePending := true } [0x00])) (fun t => t.ime && !t.imePending) &&
    nextHas (step (code { cpu with imePending := true } [0xD3])) (fun t => !t.ime && t.imePending) = true := by
  decide

theorem witness_IdleStepOnlyCounts :
    ({ cpu with runState := .halted } : State).runState = .halted ∧
    ({ cpu with runState := .stopped } : State).runState = .stopped := by
  decide

theorem witness_FatalHasNoSuccessor : ({ cpu with runState := .fatal } : State).runState = .fatal := by decide

theorem witness_UnimplementedOpcodeIsFatal :
    (code cpu [0xFD]).runState = .running ∧ (code cpu [0xFD]).readByte (code cpu [0xFD]).pc ∈ unimplementedSlots.map Prod.fst := by
  decide

/-- A slot of one cost; a condition met and not met (JR NZ, Z clear and Z set). -/
theorem witness_StepReportsDeclaredCost :
    (code cpu [0x00]).readByte 0x0100 ∉ unimplementedSlots.map Prod.fst ∧
    steps (code cpu [0x00]) (fun s => { s with pc := 0x0101, cycleCount := 4 }) (.ok 4) = true ∧
    (code cpu [0x20, 0xFC]).fetchInstr = mkJr .nz 0xFC ∧ (code cpu [0x20, 0xFC]).cond .nz = true ∧
    (code { cpu with f := 0x80 } [0x20, 0xFC]).fetchInstr = mkJr .nz 0xFC ∧
    (code { cpu with f := 0x80 } [0x20, 0xFC]).cond .nz = false := by
  decide

theorem witness_HasCondition : HasCondition (.retC) .c ∧ HasCondition (.callNcA16 0x1234) .nc :=
  ⟨⟨0, 0, .inr (.inr (.inr rfl))⟩, ⟨0x1234, 0, .inr (.inr (.inl rfl))⟩⟩

/-- No transfer, and a transfer whose condition is false. -/
theorem witness_SequentialPc :
    Instr.wf .cbSwapA = true ∧ Instr.cbSwapA ∉ unimplementedSlots.map Prod.snd ∧ Instr.cbSwapA.row.slot ∉ transferSlots ∧
    Instr.wf (.jpCA16 0x1234) = true ∧ Instr.jpCA16 0x1234 ∉ unimplementedSlots.map Prod.snd ∧
    Instr.jpCA16 0x1234 = mkJp .c 0x1234 ∧ cpu.cond .c = false := by
  decide

theorem witness_FlagsAsDeclared : Instr.wf .daa = true ∧ Instr.daa ≠ .popAf ∧ Instr.daa.row.n = .keep ∧
    Instr.daa.row.h = .clear := by decide

theorem witness_StepKeepsInvariant : State.Inv (code { cpu with a := 0x10 } [0x87]) ∧
    nextHas (step (code { cpu with a := 0x10 } [0x87])) (fun t => decide (t.a = 0x20)) = true := by decide

/-- The latch falls in a step, and stays down in another. -/
theorem witness_OverlayLatchIsOneWay :
    nextHas (step (code { cpu with overlayActive := true, a := 0x01 } [0xE0, 0x50])) (fun t => !t.overlayActive) &&
    nextHas (step (code { cpu with a := 0x00 } [0xE0, 0x50])) (fun t => !t.overlayActive) = true := by decide

/-- RUNNING left by HALT, STOP and an unimplemented slot, kept by NOP; HALTED and STOPPED kept. -/
theorem witness_OnlyTheseLeaveRunning :
    nextHas (step (code cpu [0x76])) (fun t => decide (t.runState = .halted)) &&
    nextHas (step (code cpu [0x10, 0x00])) (fun t => decide (t.runState = .stopped)) &&
    nextHas (step (code cpu [0xE3])) (fun t => decide (t.runState = .fatal)) &&
    nextHas (step (code cpu [0x00])) (fun t => decide (t.runState = .running)) &&
    nextHas (step { cpu with runState := .halted }) (fun t => decide (t.runState = .halted)) &&
    nextHas (step { cpu with runState := .stopped }) (fun t => decide (t.runState = .stopped)) = true := by decide

/-- DI, RETI, EI and another instruction, each with an EI pending. -/
theorem witness_InterruptLatchesAfterStep :
    nextHas (step (code { cpu with imePending := true } [0xF3])) (fun t => !t.ime && !t.imePending) &&
    nextHas (step (code { cpu with imePending := true } [0xD9])) (fun t => t.ime && !t.imePending) &&
    nextHas (step (code { cpu with imePending := true } [0xFB])) (fun t => t.ime && !t.imePending) &&
    nextHas (step (code { cpu with imePending := true } [0x00])) (fun t => t.ime && !t.imePending) &&
    nextHas (step (code { cpu with ime := true } [0xFB])) (fun t => t.ime && t.imePending) = true := by decide

theorem witness_LatchesDoNotInfluence :
    (code cpu [0x3C]).runState ≠ .fatal ∧
    withoutLatches (code cpu [0x3C]) = withoutLatches (code { cpu with ime := true, cycleCount := 8, fatalPc := 0x1234 } [0x3C]) ∧
    nextHas (step (code cpu [0x3C])) (fun t => decide (t.a = 0x01)) = true := by decide

/-- Every condition, true and false. -/
theorem witness_conditions :
    cpu.cond .nz = true ∧ { cpu with f := 0x80 }.cond .nz = false ∧ { cpu with f := 0x80 }.cond .z = true ∧ cpu.cond .z = false ∧
    cpu.cond .nc = true ∧ { cpu with f := 0x10 }.cond .nc = false ∧ { cpu with f := 0x10 }.cond .c = true ∧ cpu.cond .c = false := by
  decide

theorem witness_PowerAndInterruptInstructions :
    nextHas (exec .halt cpu) (fun t => decide (t.runState = .halted)) = true ∧
    nextHas (exec (.stop 0xAA) cpu) (fun t => decide (t.runState = .stopped)) = true ∧
    runFor 3 { cpu with runState := .halted } = some { cpu with runState := .halted, cycleCount := 12 } := by
  decide

theorem witness_UnimplementedSlotsTakeFatal : ((0xFD : Byte), Instr.unimplementedFD) ∈ unimplementedSlots := by decide

/-- The prefix marker with the byte 0x37 after it is SWAP A (log 5). -/
theorem witness_PrefixMarkerRunsSelectedSlot :
    nextHas (exec .prefixCb (code { cpu with a := 0xF0 } [0xCB, 0x37])) (fun t => decide (t.a = 0x0F)) = true := by decide

/-- Implemented slots of one cost and of two, an unimplemented one; and a slot to be found. -/
theorem witness_DecodeTableEntries :
    Instr.wf .cbSwapA = true ∧ Instr.cbSwapA ∉ unimplementedSlots.map Prod.snd ∧ Instr.cbSwapA.row.cycles = [8] ∧
    Instr.wf .retC = true ∧ Instr.retC ∉ unimplementedSlots.map Prod.snd ∧ Instr.retC.row.cycles = [20, 8] ∧
    Instr.wf .unimplementedD3 = true ∧ Instr.unimplementedD3 ∈ unimplementedSlots.map Prod.snd ∧
    Instr.wf (.ldAN8 0x01) = true ∧ (Instr.ldAN8 0x01).row = (Instr.ldAN8 0x02).row ∧ (Instr.ldAN8 0x01).row.slot = 0x3E := by
  decide

theorem witness_DecodeTableOperands : ¬ (Operand8.indHl = Operand8.indHl ∧ Operand8.reg .b = Operand8.indHl) := by decide

end Sys2Proof.Tests
end

section
/-! The bits that a flag write changes, and how a word splits into its bytes and joins again. -/

namespace Sys2Proof.Machine

/-- A flag write changes the bit of its flag and no other, of the whole byte (R31, R35). -/
theorem getLsbD_putFlag (f : Byte) (x : Flag) (v : Bool) (j : Nat) (hj : j < 8) :
    (putFlag f x v).getLsbD j = if j = x.pos then v else f.getLsbD j := by
  have hv : ∀ k, (BitVec.ofNat 8 v.toNat).getLsbD k = (v && decide (k = 0)) := by
    intro k
    cases v <;> simp
  have hx : x.pos < 8 := by cases x <;> decide
  simp only [putFlag, BitVec.getLsbD_or, BitVec.getLsbD_and, BitVec.getLsbD_not, BitVec.getLsbD_shiftLeft, hv, hj]
  obtain h | rfl | h := Nat.lt_trichotomy j x.pos
  · simp [h, h.ne]
  · simp
  · simp [h.not_gt, h.ne', Nat.sub_ne_zero_of_lt h]

theorem highPage_eq_append (x : Byte) : highPage x = 0xFF#8 ++ x := by
  apply BitVec.eq_of_toNat_eq
  have hx := x.isLt
  rw [BitVec.toNat_append, ← Nat.shiftLeft_add_eq_or_of_lt hx]
  simp only [highPage, zext16, BitVec.ofNat_eq_ofNat, BitVec.toNat_add, BitVec.toNat_ofNat, BitVec.toNat_setWidth]
  omega

theorem highByte_eq_ofNat (v : Word) : highByte v = BitVec.ofNat 8 (v.toNat / 256) := by
  apply BitVec.eq_of_toNat_eq
  simp [highByte, Nat.shiftRight_eq_div_pow]

theorem lowByte_eq_ofNat (v : Word) : lowByte v = BitVec.ofNat 8 v.toNat := by
  apply BitVec.eq_of_toNat_eq
  simp [lowByte]

/-- Masking the low byte of a word as R34 masks F. -/
theorem wordOf_and_mask (hi lo : Byte) : wordOf hi (lo &&& 0xF0) = wordOf hi lo &&& 0xFFF0 := by
  have h := BitVec.and_append (x₁ := hi) (y₁ := lo) (x₂ := BitVec.allOnes 8) (y₂ := 0xF0#8)
  rw [BitVec.and_allOnes] at h
  exact h.symm

theorem State.setReg_frame (s : State) (r : Reg8) (v : Byte) :
    { s.setReg r v with a := s.a, b := s.b, c := s.c, d := s.d, e := s.e, h := s.h, l := s.l } = s := by
  cases r <;> rfl

theorem State.af_setAf (s : State) (v : Word) : (s.setAf v).af = v &&& 0xFFF0 :=
  (wordOf_and_mask (highByte v) (lowByte v)).trans (by rw [wordOf_split])

end Sys2Proof.Machine
end

section
/-! Every well-formed instruction is one the decoder gives, and the decoder gives an operation of a family over its operand fields, or one of the instructions with a slot to themselves. -/

namespace Sys2Proof.Machine

open Sys2Proof.Stated

/-- The forms that the opcode map gives instructions (R123, R124): a family of slots over its operand fields, or a slot of its own. -/
inductive InstrForm : Instr → Prop where
  | ld (d o : Operand8) : InstrForm (mkLd d o)
  | ldImm (d : Operand8) (n : Byte) : InstrForm (mkLdImm d n)
  | inc (o : Operand8) : InstrForm (mkInc o)
  | dec (o : Operand8) : InstrForm (mkDec o)
  | ldPairImm (p : Pair) (n : Word) : InstrForm (mkLdPairImm p n)
  | addHl (p : Pair) : InstrForm (mkAddHl p)
  | incPair (p : Pair) : InstrForm (mkIncPair p)
  | decPair (p : Pair) : InstrForm (mkDecPair p)
  | push (q : StackPair) : InstrForm (mkPush q)
  | pop (q : StackPair) : InstrForm (mkPop q)
  | alu (op : AluOp) (src : AluSrc) : InstrForm (mkAlu op src)
  | rot (op : RotOp) (o : Operand8) : InstrForm (mkRot op o)
  | bit (b : Fin 8) (o : Operand8) : InstrForm (mkBit b o)
  | res (b : Fin 8) (o : Operand8) : InstrForm (mkRes b o)
  | set (b : Fin 8) (o : Operand8) : InstrForm (mkSet b o)
  | jr (cc : Cond) (e : Byte) : InstrForm (mkJr cc e)
  | jp (cc : Cond) (addr : Word) : InstrForm (mkJp cc addr)
  | call (cc : Cond) (addr : Word) : InstrForm (mkCall cc addr)
  | ret (cc : Cond) : InstrForm (mkRet cc)
  | rst (v : Fin 8) : InstrForm (mkRst v)
  | nop : InstrForm .nop
  | stop (ignored : Byte) : InstrForm (.stop ignored)
  | rlca : InstrForm .rlca
  | rrca : InstrForm .rrca
  | rla : InstrForm .rla
  | rra : InstrForm .rra
  | daa : InstrForm .daa
  | cpl : InstrForm .cpl
  | scf : InstrForm .scf
  | ccf : InstrForm .ccf
  | di : InstrForm .di
  | ei : InstrForm .ei
  | ldIndBcA : InstrForm .ldIndBcA
  | ldIndDeA : InstrForm .ldIndDeA
  | ldIndHlIncA : InstrForm .ldIndHlIncA
  | ldIndHlDecA : InstrForm .ldIndHlDecA
  | ldAIndBc : InstrForm .ldAIndBc
  | ldAIndDe : InstrForm .ldAIndDe
  | ldAIndHlInc : InstrForm .ldAIndHlInc
  | ldAIndHlDec : InstrForm .ldAIndHlDec
  | ldhIndA8A (n : Byte) : InstrForm (.ldhIndA8A n)
  | ldhAIndA8 (n : Byte) : InstrForm (.ldhAIndA8 n)
  | ldIndCA : InstrForm .ldIndCA
  | ldAIndC : InstrForm .ldAIndC
  | ldIndA16A (addr : Word) : InstrForm (.ldIndA16A addr)
  | ldAIndA16 (addr : Word) : InstrForm (.ldAIndA16 addr)
  | ldIndA16Sp (addr : Word) : InstrForm (.ldIndA16Sp addr)
  | ldSpHl : InstrForm .ldSpHl
  | addSpE8 (e : Byte) : InstrForm (.addSpE8 e)
  | ldHlSpE8 (e : Byte) : InstrForm (.ldHlSpE8 e)
  | jrE8 (e : Byte) : InstrForm (.jrE8 e)
  | jpA16 (addr : Word) : InstrForm (.jpA16 addr)
  | jpHl : InstrForm .jpHl
  | callA16 (addr : Word) : InstrForm (.callA16 addr)
  | plainRet : InstrForm .ret
  | reti : InstrForm .reti
  | unimplemented (op : Byte) (i : Instr) (h : (op, i) ∈ unimplementedSlots) : InstrForm i

theorem decodePrefixed_form (op2 : Byte) : InstrForm (decodePrefixed op2) := by
  unfold decodePrefixed
  split <;> constructor

theorem decodeBlock0_form (op n1 n2 : Byte) : InstrForm (decodeBlock0 op n1 n2) := by
  unfold decodeBlock0
  dsimp only
  repeat' split
  all_goals constructor

theorem decodeBlock3_form (op n1 n2 : Byte) : InstrForm (decodeBlock3 op n1 n2) := by
  unfold decodeBlock3
  dsimp only
  split
  · split <;> constructor
  · split <;> constructor
  · split <;> constructor
  · split
    · constructor
    · exact decodePrefixed_form n1
    · exact .unimplemented 0xD3 _ (by simp [unimplementedSlots])
    · exact .unimplemented 0xDB _ (by simp [unimplementedSlots])
    · exact .unimplemented 0xE3 _ (by simp [unimplementedSlots])
    · exact .unimplemented 0xEB _ (by simp [unimplementedSlots])
    · constructor
    · constructor
  · split
    · exact .unimplemented 0xE4 _ (by simp [unimplementedSlots])
    · exact .unimplemented 0xEC _ (by simp [unimplementedSlots])
    · exact .unimplemented 0xF4 _ (by simp [unimplementedSlots])
    · exact .unimplemented 0xFC _ (by simp [unimplementedSlots])
    · constructor
  · split
    · constructor
    · constructor
    · exact .unimplemented 0xDD _ (by simp [unimplementedSlots])
    · exact .unimplemented 0xED _ (by simp [unimplementedSlots])
    · exact .unimplemented 0xFD _ (by simp [unimplementedSlots])
  · constructor
  · constructor

theorem decodeBytes_form (op n1 n2 : Byte) : InstrForm (decodeBytes op n1 n2) := by
  unfold decodeBytes
  split
  · exact decodeBlock0_form op n1 n2
  · constructor
  · constructor
  · exact decodeBlock3_form op n1 n2

theorem State.fetchInstr_form (s : State) : InstrForm s.fetchInstr := decodeBytes_form _ _ _

/-- The decoder gives a well-formed instruction back from its bytes, whatever bytes follow.
With the bytes of each constructor in front, the decoder evaluates; a 16-bit operand is joined again from its two halves. -/
theorem decodeBytes_encode (i : Instr) (h : i.wf = true) (rest : List Byte) :
    decodeBytes ((encode i ++ rest).getD 0 0) ((encode i ++ rest).getD 1 0) ((encode i ++ rest).getD 2 0) = i := by
  cases i <;> dsimp only [encode, List.cons_append, List.nil_append] <;>
    simp only [List.getD_cons_zero, List.getD_cons_succ]
  case prefixCb => cases h
  case ldBcN16 n => exact congrArg Instr.ldBcN16 (wordOf_split n)
  case ldIndA16Sp n => exact congrArg Instr.ldIndA16Sp (wordOf_split n)
  case ldDeN16 n => exact congrArg Instr.ldDeN16 (wordOf_split n)
  case ldHlN16 n => exact congrArg Instr.ldHlN16 (wordOf_split n)
  case ldSpN16 n => exact congrArg Instr.ldSpN16 (wordOf_split n)
  case jpNzA16 n => exact congrArg Instr.jpNzA16 (wordOf_split n)
  case jpA16 n => exact congrArg Instr.jpA16 (wordOf_split n)
  case callNzA16 n => exact congrArg Instr.callNzA16 (wordOf_split n)
  case jpZA16 n => exact congrArg Instr.jpZA16 (wordOf_split n)
  case callZA16 n => exact congrArg Instr.callZA16 (wordOf_split n)
  case callA16 n => exact congrArg Instr.callA16 (wordOf_split n)
  case jpNcA16 n => exact congrArg Instr.jpNcA16 (wordOf_split n)
  case callNcA16 n => exact congrArg Instr.callNcA16 (wordOf_split n)
  case jpCA16 n => exact congrArg Instr.jpCA16 (wordOf_split n)
  case callCA16 n => exact congrArg Instr.callCA16 (wordOf_split n)
  case ldIndA16A n => exact congrArg Instr.ldIndA16A (wordOf_split n)
  case ldAIndA16 n => exact congrArg Instr.ldAIndA16 (wordOf_split n)
  all_goals rfl

/-- Every well-formed instruction has one of the decoder's forms. -/
theorem form_of_wf (i : Instr) (h : i.wf = true) : InstrForm i := by
  rw [← decodeBytes_encode i h []]
  exact decodeBytes_form _ _ _

/-! ### The routine of every form -/

theorem exec_mkLd_reg (dst src : Reg8) (s : State) : exec (mkLd (.reg dst) (.reg src)) s = loadReg dst src s := by
  cases dst <;> cases src <;> rfl

theorem exec_mkLd_fromHl (dst : Reg8) (s : State) : exec (mkLd (.reg dst) .indHl) s = loadFrom dst s.hl 1 8 s := by
  cases dst <;> rfl

theorem exec_mkLd_toHl (r : Reg8) (s : State) : exec (mkLd .indHl (.reg r)) s = storeTo s.hl (s.reg r) 1 8 s := by
  cases r <;> rfl

theorem exec_mkLdImm_reg (dst : Reg8) (n : Byte) (s : State) :
    exec (mkLdImm (.reg dst) n) s = finish 2 8 (s.setReg dst n) := by
  cases dst <;> rfl

theorem exec_mkLdImm_toHl (n : Byte) (s : State) : exec (mkLdImm .indHl n) s = storeTo s.hl n 2 12 s := rfl

/-- The cost of INC and DEC: 4 on a register, 12 on (HL) (R300 to R303). -/
def incDecCycles : Operand8 → Nat
  | .reg _ => 4
  | .indHl => 12

theorem exec_mkInc (o : Operand8) (s : State) : exec (mkInc o) s = increment o (incDecCycles o) s := by
  cases o with
  | reg r => cases r <;> rfl
  | indHl => rfl

theorem exec_mkDec (o : Operand8) (s : State) : exec (mkDec o) s = decrement o (incDecCycles o) s := by
  cases o with
  | reg r => cases r <;> rfl
  | indHl => rfl

theorem exec_mkLdPairImm (p : Pair) (n : Word) (s : State) :
    exec (mkLdPairImm p n) s = finish 3 12 (s.setPair p n) := by
  cases p <;> rfl

theorem exec_mkAddHl (p : Pair) (s : State) : exec (mkAddHl p) s = addHl p s := by
  cases p <;> rfl

theorem exec_mkIncPair (p : Pair) (s : State) :
    exec (mkIncPair p) s = finish 1 8 (s.setPair p (s.pair p + 1)) := by
  cases p <;> rfl

theorem exec_mkDecPair (p : Pair) (s : State) :
    exec (mkDecPair p) s = finish 1 8 (s.setPair p (s.pair p - 1)) := by
  cases p <;> rfl

theorem exec_mkPush (q : StackPair) (s : State) : exec (mkPush q) s = push q s := by
  cases q <;> rfl

theorem exec_mkPop (q : StackPair) (s : State) : exec (mkPop q) s = pop q s := by
  cases q <;> rfl

theorem exec_mkAlu (op : AluOp) (src : AluSrc) (s : State) : exec (mkAlu op src) s = accumulate op src s := by
  cases src with
  | reg r => cases op <;> cases r <;> rfl
  | indHl => cases op <;> rfl
  | imm n => cases op <;> rfl

theorem exec_mkRot (op : RotOp) (o : Operand8) (s : State) : exec (mkRot op o) s = rotateOperand op o s := by
  cases o with
  | reg r => cases op <;> cases r <;> rfl
  | indHl => cases op <;> rfl

theorem exec_mkBit (b : Fin 8) (o : Operand8) (s : State) : exec (mkBit b o) s = testBit b o s := by
  cases o with
  | reg r => fin_cases b <;> cases r <;> rfl
  | indHl => fin_cases b <;> rfl

theorem exec_mkRes (b : Fin 8) (o : Operand8) (s : State) : exec (mkRes b o) s = clearBit b o s := by
  cases o with
  | reg r => fin_cases b <;> cases r <;> rfl
  | indHl => fin_cases b <;> rfl

theorem exec_mkSet (b : Fin 8) (o : Operand8) (s : State) : exec (mkSet b o) s = raiseBit b o s := by
  cases o with
  | reg r => fin_cases b <;> cases r <;> rfl
  | indHl => fin_cases b <;> rfl

theorem exec_mkJr (cc : Cond) (e : Byte) (s : State) : exec (mkJr cc e) s = jumpRelativeIf cc e s := by
  cases cc <;> rfl

theorem exec_mkJp (cc : Cond) (addr : Word) (s : State) : exec (mkJp cc addr) s = jumpIf cc addr s := by
  cases cc <;> rfl

theorem exec_mkCall (cc : Cond) (addr : Word) (s : State) : exec (mkCall cc addr) s = callIf cc addr s := by
  cases cc <;> rfl

theorem exec_mkRet (cc : Cond) (s : State) : exec (mkRet cc) s = returnIf cc s := by
  cases cc <;> rfl

theorem exec_mkRst (v : Fin 8) (s : State) : exec (mkRst v) s = restart (BitVec.ofNat 8 (8 * v.val)) s := by
  fin_cases v <;> rfl

theorem exec_unimplemented (op : Byte) (i : Instr) (h : (op, i) ∈ unimplementedSlots) (s : State) :
    exec i s = raiseFatal op s := by
  simp only [unimplementedSlots, List.mem_cons, List.not_mem_nil, or_false, Prod.mk.injEq] at h
  obtain ⟨rfl, rfl⟩ | ⟨rfl, rfl⟩ | ⟨rfl, rfl⟩ | ⟨rfl, rfl⟩ | ⟨rfl, rfl⟩ | ⟨rfl, rfl⟩ | ⟨rfl, rfl⟩ | ⟨rfl, rfl⟩ |
    ⟨rfl, rfl⟩ | ⟨rfl, rfl⟩ | ⟨rfl, rfl⟩ := h <;> rfl

end Sys2Proof.Machine
end

section
/-! What an instruction can do to F, the memories, the overlay latch and run_state, said once for every form. -/

namespace Sys2Proof.Machine

open Sys2Proof.Stated

/-- What an instruction may do to F and to run_state: the effects that its row declares for the four flags, whether it
clears F[3:0], and the run state it enters, if it enters one. -/
structure Profile where
  z : FlagEffect
  n : FlagEffect
  h : FlagEffect
  c : FlagEffect
  clearsLow : Bool
  enters : Option RunState

/-- F and run_state stay as they are. -/
def Profile.keep : Profile := ⟨.keep, .keep, .keep, .keep, false, none⟩

/-- Only POP AF writes F[3:0] (R34, R36). -/
def clearsLowNibble : Instr → Bool
  | .popAf => true
  | _ => false

/-- HALT, STOP and the eleven unimplemented slots write run_state (R42). -/
def entersRunState : Instr → Option RunState
  | .halt => some .halted
  | .stop _ => some .stopped
  | .unimplementedD3 => some .fatal
  | .unimplementedDB => some .fatal
  | .unimplementedDD => some .fatal
  | .unimplementedE3 => some .fatal
  | .unimplementedE4 => some .fatal
  | .unimplementedEB => some .fatal
  | .unimplementedEC => some .fatal
  | .unimplementedED => some .fatal
  | .unimplementedF4 => some .fatal
  | .unimplementedFC => some .fatal
  | .unimplementedFD => some .fatal
  | _ => none

/-- The profile of an instruction, its flags by its row of the opcode table (R144). -/
def profile (i : Instr) : Profile :=
  ⟨i.row.z, i.row.n, i.row.h, i.row.c, clearsLowNibble i, entersRunState i⟩

theorem clearsLowNibble_of_ne_popAf (i : Instr) (h : i ≠ .popAf) : clearsLowNibble i = false := by
  unfold clearsLowNibble
  split
  · exact absurd rfl h
  · rfl

theorem entersRunState_eq_halted_iff (i : Instr) : entersRunState i = some .halted ↔ i = .halt := by
  unfold entersRunState
  split <;> simp_all

theorem entersRunState_eq_stopped_iff (i : Instr) : entersRunState i = some .stopped ↔ ∃ n, i = .stop n := by
  unfold entersRunState
  split <;> simp_all

theorem entersRunState_eq_fatal_iff (i : Instr) :
    entersRunState i = some .fatal ↔ i ∈ unimplementedSlots.map Prod.snd := by
  unfold entersRunState
  split <;> simp_all [unimplementedSlots]

/-! ### The profile of every family -/

theorem profile_mkLd_reg (dst : Reg8) (o : Operand8) : profile (mkLd (.reg dst) o) = .keep := by
  cases o with
  | reg src => cases dst <;> cases src <;> rfl
  | indHl => cases dst <;> rfl

theorem profile_mkLd_toHl (src : Reg8) : profile (mkLd .indHl (.reg src)) = .keep := by
  cases src <;> rfl

theorem profile_mkLdImm (d : Operand8) (n : Byte) : profile (mkLdImm d n) = .keep := by
  cases d with
  | reg r => cases r <;> rfl
  | indHl => rfl

theorem profile_mkInc (o : Operand8) : profile (mkInc o) = ⟨.computed, .clear, .computed, .keep, false, none⟩ := by
  cases o with
  | reg r => cases r <;> rfl
  | indHl => rfl

theorem profile_mkDec (o : Operand8) : profile (mkDec o) = ⟨.computed, .set, .computed, .keep, false, none⟩ := by
  cases o with
  | reg r => cases r <;> rfl
  | indHl => rfl

theorem profile_mkLdPairImm (p : Pair) (n : Word) : profile (mkLdPairImm p n) = .keep := by
  cases p <;> rfl

theorem profile_mkAddHl (p : Pair) : profile (mkAddHl p) = ⟨.keep, .clear, .computed, .computed, false, none⟩ := by
  cases p <;> rfl

theorem profile_mkIncPair (p : Pair) : profile (mkIncPair p) = .keep := by
  cases p <;> rfl

theorem profile_mkDecPair (p : Pair) : profile (mkDecPair p) = .keep := by
  cases p <;> rfl

theorem profile_mkPush (q : StackPair) : profile (mkPush q) = .keep := by
  cases q <;> rfl

/-- The profile of POP: F is a part of AF alone (R253, R254). -/
def popProfile : StackPair → Profile
  | .af => ⟨.computed, .computed, .computed, .computed, true, none⟩
  | _ => .keep

theorem profile_mkPop (q : StackPair) : profile (mkPop q) = popProfile q := by
  cases q <;> rfl

/-- The profile of an accumulator operation (R353 to R360). -/
def aluProfile : AluOp → Profile
  | .add | .adc => ⟨.computed, .clear, .computed, .computed, false, none⟩
  | .sub | .sbc | .cp => ⟨.computed, .set, .computed, .computed, false, none⟩
  | .and => ⟨.computed, .clear, .set, .clear, false, none⟩
  | .xor | .or => ⟨.computed, .clear, .clear, .clear, false, none⟩

theorem profile_mkAlu (op : AluOp) (src : AluSrc) : profile (mkAlu op src) = aluProfile op := by
  cases src with
  | reg r => cases op <;> cases r <;> rfl
  | indHl => cases op <;> rfl
  | imm n => cases op <;> rfl

/-- The profile of a prefixed rotate or shift; SWAP alone clears Cy (R404 to R412). -/
def rotProfile : RotOp → Profile
  | .swap => ⟨.computed, .clear, .clear, .clear, false, none⟩
  | _ => ⟨.computed, .clear, .clear, .computed, false, none⟩

theorem profile_mkRot (op : RotOp) (o : Operand8) : profile (mkRot op o) = rotProfile op := by
  cases o with
  | reg r => cases op <;> cases r <;> rfl
  | indHl => cases op <;> rfl

theorem profile_mkBit (b : Fin 8) (o : Operand8) :
    profile (mkBit b o) = ⟨.computed, .clear, .set, .keep, false, none⟩ := by
  cases o with
  | reg r => fin_cases b <;> cases r <;> rfl
  | indHl => fin_cases b <;> rfl

theorem profile_mkRes (b : Fin 8) (o : Operand8) : profile (mkRes b o) = .keep := by
  cases o with
  | reg r => fin_cases b <;> cases r <;> rfl
  | indHl => fin_cases b <;> rfl

theorem profile_mkSet (b : Fin 8) (o : Operand8) : profile (mkSet b o) = .keep := by
  cases o with
  | reg r => fin_cases b <;> cases r <;> rfl
  | indHl => fin_cases b <;> rfl

theorem profile_mkJr (cc : Cond) (e : Byte) : profile (mkJr cc e) = .keep := by
  cases cc <;> rfl

theorem profile_mkJp (cc : Cond) (addr : Word) : profile (mkJp cc addr) = .keep := by
  cases cc <;> rfl

theorem profile_mkCall (cc : Cond) (addr : Word) : profile (mkCall cc addr) = .keep := by
  cases cc <;> rfl

theorem profile_mkRet (cc : Cond) : profile (mkRet cc) = .keep := by
  cases cc <;> rfl

theorem profile_mkRst (v : Fin 8) : profile (mkRst v) = .keep := by
  fin_cases v <;> rfl

theorem profile_unimplemented (op : Byte) (i : Instr) (h : (op, i) ∈ unimplementedSlots) :
    profile i = ⟨.keep, .keep, .keep, .keep, false, some .fatal⟩ := by
  simp only [unimplementedSlots, List.mem_cons, List.not_mem_nil, or_false, Prod.mk.injEq] at h
  obtain ⟨-, rfl⟩ | ⟨-, rfl⟩ | ⟨-, rfl⟩ | ⟨-, rfl⟩ | ⟨-, rfl⟩ | ⟨-, rfl⟩ | ⟨-, rfl⟩ | ⟨-, rfl⟩ | ⟨-, rfl⟩ |
    ⟨-, rfl⟩ | ⟨-, rfl⟩ := h <;> rfl

/-! ### Flags -/

/-- F goes from `f` to `g` as the profile says. -/
structure FlagsFollow (p : Profile) (f g : Byte) : Prop where
  z : FlagAsDeclared p.z (getFlag f .z) (getFlag g .z)
  n : FlagAsDeclared p.n (getFlag f .n) (getFlag g .n)
  h : FlagAsDeclared p.h (getFlag f .h) (getFlag g .h)
  c : FlagAsDeclared p.c (getFlag f .c) (getFlag g .c)
  low : g &&& 0x0F = if p.clearsLow then 0 else f &&& 0x0F

theorem FlagsFollow.keep (r : Option RunState) (f : Byte) :
    FlagsFollow ⟨.keep, .keep, .keep, .keep, false, r⟩ f f :=
  ⟨rfl, rfl, rfl, rfl, rfl⟩

section
variable (f : Byte) {z n h c : Bool} {ez en eh ec : FlagEffect}

theorem flagsFollow_putZnhc (hz : FlagAsDeclared ez (getFlag f .z) z) (hn : FlagAsDeclared en (getFlag f .n) n)
    (hh : FlagAsDeclared eh (getFlag f .h) h) (hc : FlagAsDeclared ec (getFlag f .c) c) :
    FlagsFollow ⟨ez, en, eh, ec, false, none⟩ f (putZnhc f z n h c) := by
  obtain ⟨gz, gn, gh, gc⟩ := getFlag_putZnhc f z n h c
  exact ⟨by rwa [gz], by rwa [gn], by rwa [gh], by rwa [gc], lowNibble_putZnhc f z n h c⟩

theorem flagsFollow_putZnh (hz : FlagAsDeclared ez (getFlag f .z) z) (hn : FlagAsDeclared en (getFlag f .n) n)
    (hh : FlagAsDeclared eh (getFlag f .h) h) : FlagsFollow ⟨ez, en, eh, .keep, false, none⟩ f (putZnh f z n h) := by
  obtain ⟨gz, gn, gh, gc⟩ := getFlag_putZnh f z n h
  exact ⟨by rwa [gz], by rwa [gn], by rwa [gh], gc, lowNibble_putZnh f z n h⟩

theorem flagsFollow_putNhc (hn : FlagAsDeclared en (getFlag f .n) n) (hh : FlagAsDeclared eh (getFlag f .h) h)
    (hc : FlagAsDeclared ec (getFlag f .c) c) : FlagsFollow ⟨.keep, en, eh, ec, false, none⟩ f (putNhc f n h c) := by
  obtain ⟨gz, gn, gh, gc⟩ := getFlag_putNhc f n h c
  exact ⟨gz, by rwa [gn], by rwa [gh], by rwa [gc], lowNibble_putNhc f n h c⟩

end

/-! ### Memory and the overlay latch -/

/-- What no instruction breaks: `main` stays canonical, `boot` is not written, and the overlay latch never rises and
falls only with bit 0 of the byte at 0xFF50 set (R44, R47, R75). -/
structure MemoryKept (s t : State) : Prop where
  wf : Memory.wf s.main = true → Memory.wf t.main = true
  boot : t.boot = s.boot
  latch_stays_clear : s.overlayActive = false → t.overlayActive = false
  latch_falls : s.overlayActive = true → t.overlayActive = false → (Memory.read t.main 0xFF50).getLsbD 0 = true

theorem MemoryKept.refl (s : State) : MemoryKept s s :=
  ⟨id, rfl, id, fun h h' => absurd (h.symm.trans h') (by simp)⟩

/-- Only the two memories and the latch matter. -/
theorem MemoryKept.of_eq {s u t : State} (h : MemoryKept s u) (hmain : t.main = u.main) (hboot : t.boot = u.boot)
    (hlatch : t.overlayActive = u.overlayActive) : MemoryKept s t :=
  ⟨by rw [hmain]; exact h.wf, hboot.trans h.boot, by rw [hlatch]; exact h.latch_stays_clear,
    by rw [hlatch, hmain]; exact h.latch_falls⟩

theorem MemoryKept.of_same {s t : State} (hmain : t.main = s.main) (hboot : t.boot = s.boot)
    (hlatch : t.overlayActive = s.overlayActive) : MemoryKept s t :=
  (MemoryKept.refl s).of_eq hmain hboot hlatch

theorem latch_falls_writeByte (s : State) (x : Word) (v : Byte) (hs : s.overlayActive = true)
    (ht : (s.writeByte x v).overlayActive = false) : x = 0xFF50 ∧ v.getLsbD 0 = true := by
  simpa [hs, Config.overlayDisableAddr] using ht

theorem MemoryKept.writeByte (s : State) (x : Word) (v : Byte) : MemoryKept s (s.writeByte x v) where
  wf := Memory.wf_write s.main x v
  boot := rfl
  latch_stays_clear := State.overlay_writeByte_mono s x v
  latch_falls hs ht := by
    obtain ⟨rfl, hv⟩ := latch_falls_writeByte s x v hs ht
    rw [State.read_main_writeByte, if_pos (by decide)]
    exact hv

/-- A second store, at another address, cannot undo the bit at 0xFF50 that cleared the latch. -/
theorem MemoryKept.writeByte_of_writeByte (s u : State) (x y : Word) (v w : Byte) (hxy : y ≠ x)
    (hmain : u.main = (s.writeByte x v).main) (hboot : u.boot = s.boot)
    (hlatch : u.overlayActive = (s.writeByte x v).overlayActive) : MemoryKept s (u.writeByte y w) where
  wf hs := by
    refine Memory.wf_write u.main y w ?_
    rw [hmain]
    exact Memory.wf_write s.main x v hs
  boot := hboot
  latch_stays_clear hs :=
    State.overlay_writeByte_mono u y w (hlatch.trans (State.overlay_writeByte_mono s x v hs))
  latch_falls hs ht := by
    rw [State.read_main_writeByte]
    cases hu : u.overlayActive with
    | true =>
      obtain ⟨rfl, hw⟩ := latch_falls_writeByte u y w hu ht
      rw [if_pos (by decide)]
      exact hw
    | false =>
      obtain ⟨rfl, hv⟩ := latch_falls_writeByte s x v hs (hlatch.symm.trans hu)
      rw [if_neg (fun h => hxy (BitVec.eq_of_toNat_eq h.symm)), hmain, State.read_main_writeByte, if_pos (by decide)]
      exact hv

theorem MemoryKept.writeWord (s : State) (x v : Word) : MemoryKept s (s.writeWord x v) :=
  .writeByte_of_writeByte s _ x (x + 1) _ _ (by bv_omega) rfl rfl rfl

theorem MemoryKept.push16 (s : State) (v : Word) : MemoryKept s (s.push16 v) :=
  .writeByte_of_writeByte s _ (s.sp - 1) (s.sp - 1 - 1) _ _ (by bv_omega) rfl rfl rfl

theorem MemoryKept.setOperand (s : State) (o : Operand8) (v : Byte) : MemoryKept s (s.setOperand o v) := by
  cases o with
  | reg r => exact .of_same (State.setReg_main s r v) (State.setReg_boot s r v) (State.setReg_overlayActive s r v)
  | indHl => exact .writeByte s s.hl v

/-! ### Effects, and what answers them -/

/-- `t` differs from `s` as the profile allows, and as every instruction may. -/
structure Effect (p : Profile) (s t : State) : Prop where
  flags : FlagsFollow p s.f t.f
  memory : MemoryKept s t
  runState : t.runState = p.enters.getD s.runState

theorem Effect.keep {s t : State} (hf : t.f = s.f) (hm : MemoryKept s t) (hr : t.runState = s.runState) :
    Effect .keep s t :=
  ⟨hf ▸ FlagsFollow.keep none s.f, hm, hr⟩

theorem Effect.refl (s : State) : Effect .keep s s := .keep rfl (.refl s) rfl

/-- An update of registers other than F, and of the interrupt latches. -/
theorem Effect.keep_of_eq {s t : State} (hf : t.f = s.f) (hmain : t.main = s.main) (hboot : t.boot = s.boot)
    (hlatch : t.overlayActive = s.overlayActive) (hr : t.runState = s.runState) : Effect .keep s t :=
  .keep hf (.of_same hmain hboot hlatch) hr

theorem Effect.setReg (s : State) (r : Reg8) (v : Byte) : Effect .keep s (s.setReg r v) :=
  .keep_of_eq (by simp) (by simp) (by simp) (by simp) (by simp)

theorem Effect.setPair (s : State) (p : Pair) (v : Word) : Effect .keep s (s.setPair p v) := by
  cases p <;> exact .keep_of_eq rfl rfl rfl rfl rfl

theorem Effect.writeByte (s : State) (x : Word) (v : Byte) : Effect .keep s (s.writeByte x v) :=
  .keep rfl (.writeByte s x v) rfl

theorem Effect.push16 (s : State) (v : Word) : Effect .keep s (s.push16 v) :=
  .keep rfl (.push16 s v) rfl

theorem Effect.popped_setStackPair (s : State) (q : StackPair) (v : Word) :
    Effect (popProfile q) s (s.popped.setStackPair q v) := by
  cases q with
  | af =>
    refine ⟨⟨trivial, trivial, trivial, trivial, ?_⟩, .of_same rfl rfl rfl, rfl⟩
    show (lowByte v &&& 0xF0) &&& 0x0F = 0
    rw [BitVec.and_assoc]
    exact BitVec.and_zero
  | _ => exact .keep_of_eq rfl rfl rfl rfl rfl

theorem Effect.accumulated (s : State) (op : AluOp) (v : Byte) : Effect (aluProfile op) s (s.accumulated op v) := by
  have hm : MemoryKept s (s.accumulated op v) := by
    cases op <;> exact .of_same rfl rfl rfl
  cases op with
  | add | adc => exact ⟨flagsFollow_putZnhc s.f trivial rfl trivial trivial, hm, rfl⟩
  | sub | sbc | cp => exact ⟨flagsFollow_putZnhc s.f trivial rfl trivial trivial, hm, rfl⟩
  | and => exact ⟨flagsFollow_putZnhc s.f trivial rfl rfl rfl, hm, rfl⟩
  | xor | or => exact ⟨flagsFollow_putZnhc s.f trivial rfl rfl rfl, hm, rfl⟩

theorem Effect.setOperand (s : State) (o : Operand8) (v : Byte) : Effect .keep s (s.setOperand o v) :=
  .keep (by simp) (.setOperand s o v) (by simp)

/-- The outcome is a next state, with the effect that the profile allows. -/
def Answers (p : Profile) (s : State) (r : Result) : Prop := ∃ t, r = .next t ∧ Effect p s t

/-- Moving PC on and counting cycles adds nothing to an effect. -/
theorem Effect.answers_finish {p : Profile} {s u : State} (h : Effect p s u) (len cyc : Nat) :
    Answers p s (finish len cyc u) :=
  ⟨_, rfl, h.flags, h.memory.of_eq rfl rfl rfl, h.runState⟩

theorem Effect.answers_finishAt {p : Profile} {s u : State} (h : Effect p s u) (target : Word) (cyc : Nat) :
    Answers p s (finishAt target cyc u) :=
  ⟨_, rfl, h.flags, h.memory.of_eq rfl rfl rfl, h.runState⟩

theorem answers_increment (o : Operand8) (cyc : Nat) (s : State) :
    Answers ⟨.computed, .clear, .computed, .keep, false, none⟩ s (increment o cyc s) := by
  apply Effect.answers_finish
  refine ⟨?_, (MemoryKept.setOperand s o _).of_eq rfl rfl rfl, by simp⟩
  rw [State.setZnh_f, State.setOperand_f]
  exact flagsFollow_putZnh s.f trivial rfl trivial

theorem answers_decrement (o : Operand8) (cyc : Nat) (s : State) :
    Answers ⟨.computed, .set, .computed, .keep, false, none⟩ s (decrement o cyc s) := by
  apply Effect.answers_finish
  refine ⟨?_, (MemoryKept.setOperand s o _).of_eq rfl rfl rfl, by simp⟩
  rw [State.setZnh_f, State.setOperand_f]
  exact flagsFollow_putZnh s.f trivial rfl trivial

theorem answers_addHl (p : Pair) (s : State) :
    Answers ⟨.keep, .clear, .computed, .computed, false, none⟩ s (addHl p s) := by
  apply Effect.answers_finish
  exact ⟨flagsFollow_putNhc s.f rfl trivial trivial, .of_same rfl rfl rfl, rfl⟩

theorem answers_rotateA (op : RotOp) (s : State) :
    Answers ⟨.clear, .clear, .clear, .computed, false, none⟩ s (rotateA op s) := by
  apply Effect.answers_finish
  exact ⟨flagsFollow_putZnhc s.f rfl rfl rfl trivial, .of_same rfl rfl rfl, rfl⟩

theorem answers_rotateOperand (op : RotOp) (o : Operand8) (s : State) :
    Answers (rotProfile op) s (rotateOperand op o s) := by
  apply Effect.answers_finish
  refine ⟨?_, (MemoryKept.setOperand s o _).of_eq rfl rfl rfl, ?_⟩
  · rw [State.setZnhc_f, State.setOperand_f]
    cases op with
    | swap => exact flagsFollow_putZnhc s.f trivial rfl rfl rfl
    | _ => exact flagsFollow_putZnhc s.f trivial rfl rfl trivial
  · cases op <;> simp [rotProfile]

theorem answers_testBit (b : Fin 8) (o : Operand8) (s : State) :
    Answers ⟨.computed, .clear, .set, .keep, false, none⟩ s (testBit b o s) := by
  apply Effect.answers_finish
  exact ⟨flagsFollow_putZnh s.f trivial rfl rfl, .of_same rfl rfl rfl, rfl⟩

theorem answers_decimalAdjust (s : State) :
    Answers ⟨.computed, .keep, .clear, .computed, false, none⟩ s (decimalAdjust s) := by
  apply Effect.answers_finish
  exact ⟨⟨trivial, by simp [FlagAsDeclared], by simp [FlagAsDeclared], trivial,
    by simp only [lowNibble_putFlag]; rfl⟩, .of_same rfl rfl rfl, rfl⟩

theorem answers_cpl (s : State) : Answers ⟨.keep, .set, .set, .keep, false, none⟩ s (execCpl s) := by
  apply Effect.answers_finish
  exact ⟨⟨by simp [FlagAsDeclared], by simp [FlagAsDeclared], by simp [FlagAsDeclared], by simp [FlagAsDeclared],
    by simp only [lowNibble_putFlag]; rfl⟩, .of_same rfl rfl rfl, rfl⟩

theorem setSpFlags_follow (s : State) (e : Byte) :
    FlagsFollow ⟨.clear, .clear, .computed, .computed, false, none⟩ s.f (s.setSpFlags e).f :=
  flagsFollow_putZnhc s.f rfl rfl trivial trivial

theorem answers_call (addr : Word) (s : State) : Answers .keep s (call addr s) :=
  (Effect.push16 s _).answers_finishAt addr 24

theorem answers_returnWith (cyc : Nat) (s : State) : Answers .keep s (returnWith cyc s) := by
  apply Effect.answers_finishAt
  exact .keep_of_eq rfl rfl rfl rfl rfl

theorem answers_jumpRelativeIf (cc : Cond) (e : Byte) (s : State) : Answers .keep s (jumpRelativeIf cc e s) := by
  unfold jumpRelativeIf
  split
  · exact (Effect.refl s).answers_finishAt _ 12
  · exact (Effect.refl s).answers_finish 2 8

theorem answers_jumpIf (cc : Cond) (addr : Word) (s : State) : Answers .keep s (jumpIf cc addr s) := by
  unfold jumpIf
  split
  · exact (Effect.refl s).answers_finishAt _ 16
  · exact (Effect.refl s).answers_finish 3 12

theorem answers_callIf (cc : Cond) (addr : Word) (s : State) : Answers .keep s (callIf cc addr s) := by
  unfold callIf
  split
  · exact answers_call addr s
  · exact (Effect.refl s).answers_finish 3 12

theorem answers_returnIf (cc : Cond) (s : State) : Answers .keep s (returnIf cc s) := by
  unfold returnIf
  split
  · exact answers_returnWith 20 s
  · exact (Effect.refl s).answers_finish 1 8

theorem answers_raiseFatal (op : Byte) (s : State) :
    Answers ⟨.keep, .keep, .keep, .keep, false, some .fatal⟩ s (raiseFatal op s) :=
  ⟨_, rfl, FlagsFollow.keep _ s.f, .of_same rfl rfl rfl, rfl⟩

theorem answers_mkLd (d o : Operand8) (s : State) : Answers (profile (mkLd d o)) s (exec (mkLd d o) s) := by
  cases d with
  | reg dst =>
    rw [profile_mkLd_reg]
    cases o with
    | reg src => rw [exec_mkLd_reg]; exact (Effect.setReg s dst _).answers_finish 1 4
    | indHl => rw [exec_mkLd_fromHl]; exact (Effect.setReg s dst _).answers_finish 1 8
  | indHl =>
    cases o with
    | reg src => rw [profile_mkLd_toHl, exec_mkLd_toHl]; exact (Effect.writeByte s s.hl _).answers_finish 1 8
    | indHl => exact ⟨_, rfl, FlagsFollow.keep _ s.f, .of_same rfl rfl rfl, rfl⟩

theorem answers_mkLdImm (d : Operand8) (n : Byte) (s : State) : Answers .keep s (exec (mkLdImm d n) s) := by
  cases d with
  | reg dst => rw [exec_mkLdImm_reg]; exact (Effect.setReg s dst n).answers_finish 2 8
  | indHl => exact (Effect.writeByte s s.hl n).answers_finish 2 12

/-- What every instruction that the decoder gives does: it completes, with the effect of its profile. -/
theorem InstrForm.answers {i : Instr} (hi : InstrForm i) (s : State) : Answers (profile i) s (exec i s) := by
  cases hi with
  | ld d o => exact answers_mkLd d o s
  | ldImm d n => rw [profile_mkLdImm]; exact answers_mkLdImm d n s
  | inc o => rw [profile_mkInc, exec_mkInc]; exact answers_increment o _ s
  | dec o => rw [profile_mkDec, exec_mkDec]; exact answers_decrement o _ s
  | ldPairImm p n => rw [profile_mkLdPairImm, exec_mkLdPairImm]; exact (Effect.setPair s p n).answers_finish 3 12
  | addHl p => rw [profile_mkAddHl, exec_mkAddHl]; exact answers_addHl p s
  | incPair p => rw [profile_mkIncPair, exec_mkIncPair]; exact (Effect.setPair s p _).answers_finish 1 8
  | decPair p => rw [profile_mkDecPair, exec_mkDecPair]; exact (Effect.setPair s p _).answers_finish 1 8
  | push q => rw [profile_mkPush, exec_mkPush]; exact (Effect.push16 s _).answers_finish 1 16
  | pop q => rw [profile_mkPop, exec_mkPop]; exact (Effect.popped_setStackPair s q _).answers_finish 1 12
  | alu op src => rw [profile_mkAlu, exec_mkAlu]; exact (Effect.accumulated s op _).answers_finish _ _
  | rot op o => rw [profile_mkRot, exec_mkRot]; exact answers_rotateOperand op o s
  | bit b o => rw [profile_mkBit, exec_mkBit]; exact answers_testBit b o s
  | res b o => rw [profile_mkRes, exec_mkRes]; exact (Effect.setOperand s o _).answers_finish 2 _
  | set b o => rw [profile_mkSet, exec_mkSet]; exact (Effect.setOperand s o _).answers_finish 2 _
  | jr cc e => rw [profile_mkJr, exec_mkJr]; exact answers_jumpRelativeIf cc e s
  | jp cc addr => rw [profile_mkJp, exec_mkJp]; exact answers_jumpIf cc addr s
  | call cc addr => rw [profile_mkCall, exec_mkCall]; exact answers_callIf cc addr s
  | ret cc => rw [profile_mkRet, exec_mkRet]; exact answers_returnIf cc s
  | rst v => rw [profile_mkRst, exec_mkRst]; exact (Effect.push16 s _).answers_finishAt _ 16
  | nop => exact (Effect.refl s).answers_finish 1 4
  | stop _ => exact ⟨_, rfl, FlagsFollow.keep _ s.f, .of_same rfl rfl rfl, rfl⟩
  | rlca => exact answers_rotateA .rlc s
  | rrca => exact answers_rotateA .rrc s
  | rla => exact answers_rotateA .rl s
  | rra => exact answers_rotateA .rr s
  | daa => exact answers_decimalAdjust s
  | cpl => exact answers_cpl s
  | scf =>
    apply Effect.answers_finish
    exact ⟨flagsFollow_putNhc s.f rfl rfl rfl, .of_same rfl rfl rfl, rfl⟩
  | ccf =>
    apply Effect.answers_finish
    exact ⟨flagsFollow_putNhc s.f rfl rfl trivial, .of_same rfl rfl rfl, rfl⟩
  | di | ei => apply Effect.answers_finish; exact (.keep_of_eq rfl rfl rfl rfl rfl)
  | ldIndBcA | ldIndDeA => exact (Effect.writeByte s _ s.a).answers_finish 1 8
  | ldIndHlIncA | ldIndHlDecA =>
    apply Effect.answers_finish; exact (.keep rfl ((MemoryKept.writeByte s s.hl s.a).of_eq rfl rfl rfl) rfl)
  | ldAIndBc | ldAIndDe => exact (Effect.setReg s .a _).answers_finish 1 8
  | ldAIndHlInc | ldAIndHlDec => apply Effect.answers_finish; exact (.keep_of_eq rfl rfl rfl rfl rfl)
  | ldhIndA8A n => exact (Effect.writeByte s _ s.a).answers_finish 2 12
  | ldhAIndA8 n => exact (Effect.setReg s .a _).answers_finish 2 12
  | ldIndCA => exact (Effect.writeByte s _ s.a).answers_finish 1 8
  | ldAIndC => exact (Effect.setReg s .a _).answers_finish 1 8
  | ldIndA16A addr => exact (Effect.writeByte s addr s.a).answers_finish 3 16
  | ldAIndA16 addr => exact (Effect.setReg s .a _).answers_finish 3 16
  | ldIndA16Sp addr => apply Effect.answers_finish; exact (.keep rfl (.writeWord s addr s.sp) rfl)
  | ldSpHl => apply Effect.answers_finish; exact (.keep_of_eq rfl rfl rfl rfl rfl)
  | addSpE8 e =>
    apply Effect.answers_finish; exact ⟨setSpFlags_follow s e, .of_same rfl rfl rfl, rfl⟩
  | ldHlSpE8 e =>
    apply Effect.answers_finish; exact ⟨setSpFlags_follow s e, .of_same rfl rfl rfl, rfl⟩
  | jrE8 e => exact (Effect.refl s).answers_finishAt _ 12
  | jpA16 addr => exact (Effect.refl s).answers_finishAt addr 16
  | jpHl => exact (Effect.refl s).answers_finishAt s.hl 4
  | callA16 addr => exact answers_call addr s
  | plainRet => exact answers_returnWith 16 s
  | reti => apply Effect.answers_finishAt; exact .keep_of_eq rfl rfl rfl rfl rfl
  | unimplemented op _ h => rw [profile_unimplemented op i h, exec_unimplemented op i h]; exact answers_raiseFatal op s

end Sys2Proof.Machine
end

section
/-! The whole-machine statements of 10_state.md, each a short use of `InstrForm.answers`. -/

namespace Sys2Proof.Machine

open Sys2Proof.Stated

/-- What one step can be: idle, or an instruction with the effect of its profile and then the promotion of a pending EI. -/
theorem step_effect {s t : State} (h : step s = .next t) :
    ((s.runState = .halted ∨ s.runState = .stopped) ∧ t = s.idle) ∨
      (s.runState = .running ∧ ∃ u, Effect (profile s.fetchInstr) s u ∧ t = u.promoteIme s.imePending) := by
  obtain hidle | ⟨hrun, u, hu, ht⟩ := step_next_cases s t h
  · exact .inl hidle
  · obtain ⟨u', hu', heff⟩ := s.fetchInstr_form.answers s
    obtain rfl : u = u' := by simpa [hu] using hu'
    exact .inr ⟨hrun, u, heff, ht⟩

theorem step_keeps_memory {s t : State} (h : step s = .next t) : MemoryKept s t := by
  obtain ⟨-, rfl⟩ | ⟨-, u, heff, rfl⟩ := step_effect h
  · exact .of_same rfl rfl rfl
  · exact heff.memory.of_eq (by simp) (by simp) (by simp)

theorem step_keeps_lowNibble_clear {s t : State} (h : step s = .next t) (hs : s.f &&& 0x0F = 0) :
    t.f &&& 0x0F = 0 := by
  obtain ⟨-, rfl⟩ | ⟨-, u, heff, rfl⟩ := step_effect h
  · exact hs
  · rw [State.promoteIme_f, heff.flags.low, hs, ite_self]

/-- Settles O20: the canonical form survives every store, `boot` is never written, and no flag write touches F[3:0]
but POP AF, which clears it. -/
theorem stepKeepsInvariant : Obligations.StepKeepsInvariant := by
  unfold Obligations.StepKeepsInvariant
  intro s t ⟨hmain, hboot, hlow⟩ h
  have hmem := step_keeps_memory h
  exact ⟨hmem.wf hmain, hmem.boot.symm ▸ hboot, step_keeps_lowNibble_clear h hlow⟩

/-- Settles O19: a well-formed instruction has one of the decoder's forms, and each form follows its row. -/
theorem flagsAsDeclared : Obligations.FlagsAsDeclared := by
  unfold Obligations.FlagsAsDeclared
  intro i s hwf
  obtain ⟨t, ht, ⟨hz, hn, hh, hc, hlow⟩, -, -⟩ := (form_of_wf i hwf).answers s
  refine ⟨t, ht, hz, hn, hh, hc, fun hi => ?_⟩
  rw [hlow, profile, clearsLowNibble_of_ne_popAf i hi, if_neg Bool.false_ne_true]

/-! ### Reset -/

/-- What Reset answers with: the refusal for a long image, else the state of the table (R650). -/
theorem construct_ok {img : List Byte} {mem : List Host.Cell} {t : State} (h : construct img mem = .ok t) :
    t = { State.reset with boot := Memory.ofBytes 0 img, main := Memory.ofCells Config.addressSpace mem } := by
  unfold construct at h
  split at h
  · cases h
  · exact (Except.ok.inj h).symm

/-- Settles O22, from what every step keeps of the memories and the latch. -/
theorem overlayLatchIsOneWay : Obligations.OverlayLatchIsOneWay := by
  unfold Obligations.OverlayLatchIsOneWay
  refine ⟨fun img mem t h => ?_, fun s t h => ?_⟩
  · rw [construct_ok h]; rfl
  · have hmem := step_keeps_memory h
    exact ⟨hmem.boot, hmem.latch_stays_clear, hmem.latch_falls⟩

/-- A running step ends in the run state that its instruction enters, if it enters one. -/
theorem step_runState_of_running {s t : State} (h : step s = .next t) (hs : s.runState = .running) :
    t.runState = (entersRunState s.fetchInstr).getD .running := by
  obtain ⟨hidle, -⟩ | ⟨-, u, heff, rfl⟩ := step_effect h
  · simp [hs] at hidle
  · rw [State.promoteIme_runState, heff.runState, hs, profile]

theorem getD_running_eq_iff {o : Option RunState} {r : RunState} (hr : r ≠ .running) :
    o.getD .running = r ↔ o = some r := by
  cases o with
  | none => simp [Ne.symm hr]
  | some q => simp

/-- Settles O23: `entersRunState` names the instructions that leave RUNNING, and an idle step keeps run_state. -/
theorem onlyTheseLeaveRunning : Obligations.OnlyTheseLeaveRunning := by
  unfold Obligations.OnlyTheseLeaveRunning
  refine ⟨fun img mem t h => ?_, fun s t h => ⟨?_, fun hs => ?_, fun hs => ?_, fun hs => ?_⟩⟩
  · rw [construct_ok h]; rfl
  · intro hs
    simp [step, hs] at h
  · rw [step_runState_of_running h hs, getD_running_eq_iff (by simp), getD_running_eq_iff (by simp),
      getD_running_eq_iff (by simp)]
    exact ⟨entersRunState_eq_halted_iff _, entersRunState_eq_stopped_iff _, entersRunState_eq_fatal_iff _⟩
  · obtain ⟨-, rfl⟩ | ⟨hrun, -⟩ := step_effect h
    · exact hs
    · simp [hs] at hrun
  · obtain ⟨-, rfl⟩ | ⟨hrun, -⟩ := step_effect h
    · exact hs
    · simp [hs] at hrun

theorem Memory.read_ofBytes_of_lt (bytes : List Byte) (a k : Nat) (hk : k < a) :
    Memory.read (Memory.ofBytes a bytes) k = Config.unlisted := by
  refine Memory.read_unlisted _ _ fun c hc => ?_
  have hle := Memory.rising_keys _ a (Memory.canonical_ofBytes bytes a _ le_rfl).1 c hc
  omega

/-- Bytes placed from `a` on are read back there, and what follows them reads as zero (R650). -/
theorem Memory.read_ofBytes (bytes : List Byte) (a k : Nat) :
    Memory.read (Memory.ofBytes a bytes) (a + k) = bytes.getD k 0x00 := by
  induction bytes generalizing a k with
  | nil => rfl
  | cons v rest ih =>
    unfold Memory.ofBytes
    cases k with
    | zero =>
      split
      · rename_i hv
        exact (Memory.read_ofBytes_of_lt rest (a + 1) a (Nat.lt_succ_self a)).trans hv.symm
      · exact if_pos rfl
    | succ k =>
      have hrest : Memory.read (Memory.ofBytes (a + 1) rest) (a + (k + 1)) = rest.getD k 0x00 := by
        rw [← ih (a + 1) k, Nat.add_right_comm, Nat.add_assoc]
      split
      · exact hrest
      · exact (if_neg (by omega)).trans hrest

/-- The fold of `Memory.ofCells`, from any memory that is right already at `a` or has its cell still to come. -/
theorem Memory.read_foldl_write (size a : Nat) (ha : a < size) (memInit : Nat → Byte) (cells : List Host.Cell)
    (hval : ∀ c ∈ cells, c.2 = memInit c.1) (m : Memory) (hm : a ∈ cells.map Prod.fst ∨ Memory.read m a = memInit a) :
    Memory.read (cells.foldl (fun m cell => if cell.1 < size then Memory.write m cell.1 cell.2 else m) m) a =
      memInit a := by
  induction cells generalizing m with
  | nil => simpa using hm
  | cons c rest ih =>
    rw [List.foldl_cons]
    refine ih (fun x hx => hval x (List.mem_cons_of_mem c hx)) _ ?_
    have hc : c.2 = memInit c.1 := hval c List.mem_cons_self
    by_cases hca : a = c.1
    · right
      rw [if_pos (hca ▸ ha), Memory.read_write, if_pos hca, hc, hca]
    · obtain hmem | hread := hm
      · left
        simpa [hca] using hmem
      · right
        split
        · rw [Memory.read_write, if_neg hca, hread]
        · exact hread

/-- Cells that agree with `memInit` and name the address give its byte there (log 9). -/
theorem Memory.read_ofCells (size a : Nat) (ha : a < size) (memInit : Nat → Byte) (cells : List Host.Cell)
    (hval : ∀ c ∈ cells, c.2 = memInit c.1) (hmem : a ∈ cells.map Prod.fst) :
    Memory.read (Memory.ofCells size cells) a = memInit a :=
  Memory.read_foldl_write size a ha memInit cells hval [] (.inl hmem)

/-- Settles O1: `main` is read cell by cell, `boot` byte by byte, and every other field is the table's by definition. -/
theorem resetBuildsTheTableState : Obligations.ResetBuildsTheTableState := by
  unfold Obligations.ResetBuildsTheTableState
  intro img mem memInit hval hall
  have hmain (a : Nat) (ha : a < 65536) : Memory.read (Memory.ofCells Config.addressSpace mem) a = memInit a :=
    Memory.read_ofCells 65536 a ha memInit mem hval (hall a ha)
  have hboot (i : Nat) : Memory.read (Memory.ofBytes 0 img) i = img.getD i 0x00 := by
    simpa using Memory.read_ofBytes img 0 i
  refine ⟨fun hlong => if_pos hlong, fun hshort => ⟨_, if_neg (Nat.not_lt.mpr hshort), ?_⟩⟩
  exact ⟨rfl, rfl, rfl, rfl, rfl, rfl, rfl, rfl, rfl, rfl, rfl, rfl, rfl, rfl, rfl, hmain, fun i _ => hboot i⟩

/-! ### Registers and flags -/

/-- Settles O3: the views are the fields by definition; what is left is how a word splits and joins again. -/
theorem registerAndPairViews : Obligations.RegisterAndPairViews := by
  unfold Obligations.RegisterAndPairViews
  intro s v x r q
  rw [← highByte_eq_ofNat, ← lowByte_eq_ofNat]
  exact ⟨rfl, rfl, rfl, rfl, rfl, rfl, rfl, rfl, rfl, rfl, rfl, rfl, rfl, rfl, rfl, rfl, rfl, rfl, rfl, rfl, rfl, rfl,
    rfl, rfl, rfl, rfl, rfl, rfl, highPage_eq_append x, State.reg_setReg s r q x, State.setReg_frame s r x,
    rfl, rfl, rfl, rfl, wordOf_split v, wordOf_split v, wordOf_split v, State.af_setAf s v, rfl, rfl, rfl, rfl⟩

/-- Settles O4: each writer is a chain of `putFlag`, and that changes the one bit of its flag. -/
theorem flagBitsAreIndependent : Obligations.FlagBitsAreIndependent := by
  unfold Obligations.FlagBitsAreIndependent
  intro f x v z n h c
  refine ⟨rfl, rfl, rfl, rfl, getLsbD_putFlag f x v, fun j hj => ?_, fun j hj => ?_, fun j hj => ?_⟩
  · simp only [putZnhc, getLsbD_putFlag _ _ _ j hj]
    interval_cases j <;> rfl
  · simp only [putZnh, getLsbD_putFlag _ _ _ j hj]
    interval_cases j <;> rfl
  · simp only [putNhc, getLsbD_putFlag _ _ _ j hj]
    interval_cases j <;> rfl

end Sys2Proof.Machine
end

section
/-! The statements of 20_memory.md: what a read finds (R73), and what one store and two stores in a row do (R75, R76). -/

namespace Sys2Proof.Machine

open Sys2Proof.Stated

/-! ### One read, one write -/

theorem State.overlaid_iff (s : State) (y : Word) :
    s.overlaid y = true ↔ s.overlayActive = true ∧ y.toNat ≤ 0x00FF := by
  simp [State.overlaid, Config.overlaySize, Nat.lt_succ_iff]

/-- The overlay selection of R73. -/
theorem State.readByte_eq (s : State) (y : Word) :
    s.readByte y =
      if s.overlayActive = true ∧ y.toNat ≤ 0x00FF then Memory.read s.boot y.toNat else Memory.read s.main y.toNat :=
  if_congr (s.overlaid_iff y) rfl rfl

theorem State.read_main_writeByte_word (s : State) (x : Word) (v : Byte) (k : Word) :
    Memory.read (s.writeByte x v).main k.toNat = if k = x then v else Memory.read s.main k.toNat := by
  simp only [State.read_main_writeByte, BitVec.toNat_inj]

/-- The latch falls exactly by bit 0 written as 1 to 0xFF50 (R75). -/
theorem State.overlayActive_writeByte_eq (s : State) (x : Word) (v : Byte) :
    (s.writeByte x v).overlayActive = if x = 0xFF50 ∧ v.getLsbD 0 = true then false else s.overlayActive := by
  split
  · next h =>
    obtain ⟨rfl, hv⟩ := h
    rw [State.writeByte_overlayActive, hv, Bool.and_true]
    exact Bool.and_false _
  · next h =>
    exact s.overlay_writeByte_of_ne x v ((not_and_or.mp h).imp_right Bool.eq_false_of_not_eq_true)

/-- A write is seen by every later read that the overlay does not serve (R73, R75). -/
theorem State.readByte_writeByte (s : State) (x y : Word) (v : Byte) :
    (s.writeByte x v).readByte y =
      if (s.writeByte x v).overlayActive = true ∧ y.toNat ≤ 0x00FF then Memory.read s.boot y.toNat
      else if y = x then v else Memory.read s.main y.toNat := by
  rw [State.readByte_eq, State.read_main_writeByte_word, State.writeByte_boot]

/-- Settles O5: one read by R73, one write by R75, and the read after it by both. -/
theorem readAfterWriteThroughOverlay : Obligations.ReadAfterWriteThroughOverlay := by
  unfold Obligations.ReadAfterWriteThroughOverlay
  intro s x y v t
  exact ⟨s.readByte_eq y, s.read_main_writeByte_word x v, s.overlayActive_writeByte_eq x v,
    s.readByte_writeByte x y v, rfl⟩

/-! ### Stores in a row -/

/-- A read of a byte that is the same in both memories depends on the latch only below 0x0100. -/
theorem State.readByte_congr {s t : State} {x : Word} (hboot : t.boot = s.boot)
    (hmain : Memory.read t.main x.toNat = Memory.read s.main x.toNat)
    (hlatch : t.overlayActive = s.overlayActive ∨ 0x00FF < x.toNat) : t.readByte x = s.readByte x := by
  rw [State.readByte_eq, State.readByte_eq, hboot, hmain]
  obtain h | h := hlatch
  · rw [h]
  · simp [Nat.not_le.mpr h]

theorem stores_nil (s : State) : Stores s s [] :=
  ⟨by simp, fun _ _ => rfl, rfl, by simp, fun _ _ _ => rfl⟩

/-- One more store, at an address not yet stored at. -/
theorem stores_snoc {s u : State} {cells : List (Word × Byte)} (h : Stores s u cells) (y : Word) (w : Byte)
    (hy : ∀ c ∈ cells, c.1 ≠ y) : Stores s (u.writeByte y w) (cells ++ [(y, w)]) := by
  obtain ⟨hcells, hmain, hboot, hlatch, -⟩ := h
  have hframe (x : Word) (hx : ∀ c ∈ cells ++ [(y, w)], x ≠ c.1) :
      Memory.read (u.writeByte y w).main x.toNat = Memory.read s.main x.toNat := by
    rw [State.read_main_writeByte_word, if_neg (hx (y, w) (by simp))]
    exact hmain x fun c hc => hx c (List.mem_append_left _ hc)
  refine ⟨fun c hc => ?_, hframe, hboot, ?_, fun x hx => State.readByte_congr hboot (hframe x hx)⟩
  · rw [State.read_main_writeByte_word]
    obtain hc | hc := List.mem_append.mp hc
    · rw [if_neg (hy c hc), hcells c hc]
    · rw [List.mem_singleton.mp hc, if_pos rfl]
  · simp [hlatch, Bool.and_assoc, Config.overlayDisableAddr]

theorem stores_writeByte (s : State) (x : Word) (v : Byte) : Stores s (s.writeByte x v) [(x, v)] :=
  stores_snoc (stores_nil s) x v (by simp)

theorem stores_writeWord (s : State) (x v : Word) :
    Stores s (s.writeWord x v) [(x, lowByte v), (x + 1, highByte v)] :=
  stores_snoc (stores_writeByte s x (lowByte v)) (x + 1) (highByte v) (by simp)

/-- Settles O6: both reads by definition, 0xFFFF + 1 being 0x0000, and the word store as two stores in a row. -/
theorem wordAccessWraps : Obligations.WordAccessWraps := by
  unfold Obligations.WordAccessWraps
  intro s x v
  rw [← highByte_eq_ofNat, ← lowByte_eq_ofNat]
  exact ⟨rfl, rfl, stores_writeWord s x v, rfl⟩

end Sys2Proof.Machine
end

section
/-! The decode table: the row that three bytes select, by slot (R115, R142), and the entry of every family of slots (R128 to R130). -/

namespace Sys2Proof.Machine

open Sys2Proof.Stated

/-! ### The row is selected by the opcode byte, and by the byte after 0xCB -/

theorem row_mkLdImm (d : Operand8) (n m : Byte) : (mkLdImm d n).row = (mkLdImm d m).row := by
  cases d with
  | reg r => cases r <;> rfl
  | indHl => rfl

theorem row_mkLdPairImm (p : Pair) (n m : Word) : (mkLdPairImm p n).row = (mkLdPairImm p m).row := by
  cases p <;> rfl

theorem row_mkAlu_imm (op : AluOp) (n m : Byte) : (mkAlu op (.imm n)).row = (mkAlu op (.imm m)).row := by
  cases op <;> rfl

theorem row_mkJr (cc : Cond) (e g : Byte) : (mkJr cc e).row = (mkJr cc g).row := by
  cases cc <;> rfl

theorem row_mkJp (cc : Cond) (v w : Word) : (mkJp cc v).row = (mkJp cc w).row := by
  cases cc <;> rfl

theorem row_mkCall (cc : Cond) (v w : Word) : (mkCall cc v).row = (mkCall cc w).row := by
  cases cc <;> rfl

theorem row_decodeBlock0 (op n1 n2 m1 m2 : Byte) : (decodeBlock0 op n1 n2).row = (decodeBlock0 op m1 m2).row := by
  unfold decodeBlock0
  dsimp only
  generalize fieldZ op = z, fieldY op = y
  split
  · split
    · rfl
    · rfl
    · rfl
    · rfl
    · exact row_mkJr _ _ _
  · split
    · exact row_mkLdPairImm _ _ _
    · rfl
  · rfl
  · rfl
  · rfl
  · rfl
  · exact row_mkLdImm _ _ _
  · rfl

theorem row_decodeBlock3 (op n1 n2 m1 m2 : Byte) (h : fieldZ op = 3 → fieldY op = 1 → n1 = m1) :
    (decodeBlock3 op n1 n2).row = (decodeBlock3 op m1 m2).row := by
  unfold decodeBlock3
  dsimp only
  generalize fieldZ op = z, fieldY op = y, fieldQ op = q, fieldP op = p at h ⊢
  split
  · split <;> rfl
  · rfl
  · split
    · rfl
    · rfl
    · rfl
    · rfl
    · exact row_mkJp _ _ _
  · split
    · rfl
    · rw [h rfl rfl]
    all_goals rfl
  · split
    · rfl
    · rfl
    · rfl
    · rfl
    · exact row_mkCall _ _ _
  · split <;> rfl
  · exact row_mkAlu_imm _ _ _
  · rfl

/-- Operand bytes do not select the row (R127): only the opcode byte does, and after 0xCB the byte that follows it. -/
theorem row_decodeBytes (op n1 n2 m1 m2 : Byte) (h : op = 0xCB → n1 = m1) :
    (decodeBytes op n1 n2).row = (decodeBytes op m1 m2).row := by
  have hcb (hx : fieldX op ≠ 0 ∧ fieldX op ≠ 1 ∧ fieldX op ≠ 2) (hz : fieldZ op = 3) (hy : fieldY op = 1) :
      n1 = m1 := by
    refine h (BitVec.eq_of_toNat_eq ?_)
    have hop := op.isLt
    simp only [fieldX, fieldY, fieldZ] at hx hy hz
    show op.toNat = 203
    omega
  unfold decodeBytes
  generalize fieldX op = x at hcb ⊢
  split
  · exact row_decodeBlock0 _ _ _ _ _
  · rfl
  · rfl
  · next h0 h1 h2 => exact row_decodeBlock3 _ _ _ _ _ (hcb ⟨h0, h1, h2⟩)

theorem decodeBytes_cbPrefix (n1 n2 : Byte) : decodeBytes 0xCB n1 n2 = decodePrefixed n1 := rfl

/-- The 255 opcode bytes that select a slot of their own. -/
theorem slot_decodeBytes_of_zeros : ∀ op : Byte, op ≠ 0xCB → (decodeBytes op 0 0).row.slot = op.toNat := by
  decide

/-- The 256 bytes that may follow 0xCB. -/
theorem slot_decodePrefixed : ∀ op2 : Byte, (decodePrefixed op2).row.slot = 256 + op2.toNat := by
  decide

/-- Settles O11: 0xCB leaves the choice to the byte after it, and no other opcode byte looks at its operand bytes, so
that both kinds of slot are read off with these at zero. -/
theorem slotOfFetchedBytes : Obligations.SlotOfFetchedBytes := by
  unfold Obligations.SlotOfFetchedBytes
  intro op n1 n2
  split
  · next h => rw [h, decodeBytes_cbPrefix, slot_decodePrefixed]
  · next h => rw [row_decodeBytes op n1 n2 0 0 fun h' => absurd h' h, slot_decodeBytes_of_zeros op h]

theorem size_decodePrefixed : ∀ op2 : Byte, (decodePrefixed op2).size = 2 := by
  decide

/-- Settles O10: with the operand bytes at zero there are 256 opcode bytes to look at; after 0xCB every slot has two
bytes. -/
theorem lengthFromFirstByte : Obligations.LengthFromFirstByte := by
  unfold Obligations.LengthFromFirstByte
  intro op n1 n2
  by_cases h : op = 0xCB
  · rw [h, decodeBytes_cbPrefix, size_decodePrefixed]
    rfl
  · rw [Instr.size, row_decodeBytes op n1 n2 0 0 fun h' => absurd h' h]
    revert op
    decide

/-- 0xCB never selects its own slot (R126). -/
theorem slot_decodeBytes_ne_cb (op n1 n2 : Byte) : (decodeBytes op n1 n2).row.slot ≠ 0xCB := by
  rw [slotOfFetchedBytes op n1 n2]
  split
  · omega
  · next h => exact fun h' => h (BitVec.eq_of_toNat_eq h')

theorem slot_decodeBytes_lt (op n1 n2 : Byte) : (decodeBytes op n1 n2).row.slot < 512 := by
  rw [slotOfFetchedBytes op n1 n2]
  split <;> omega

theorem wf_of_ne_prefixCb {i : Instr} (h : i ≠ .prefixCb) : i.wf = true := by
  unfold Instr.wf
  split
  · exact absurd rfl h
  · rfl

theorem wf_decodeBytes (op n1 n2 : Byte) : (decodeBytes op n1 n2).wf = true := by
  apply wf_of_ne_prefixCb
  intro h
  exact slot_decodeBytes_ne_cb op n1 n2 (by rw [h]; rfl)

theorem exists_decodeBytes_eq {i : Instr} (h : i.wf = true) : ∃ op n1 n2, decodeBytes op n1 n2 = i :=
  ⟨_, _, _, decodeBytes_encode i h []⟩

/-- Every slot but the marker's is selected by some bytes. -/
theorem exists_slot_decodeBytes (k : Nat) (hk : k < 512) (hcb : k ≠ 0xCB) :
    ∃ op n1, (decodeBytes op n1 0).row.slot = k := by
  by_cases hlow : k < 256
  · refine ⟨BitVec.ofNat 8 k, 0, ?_⟩
    have hop : (BitVec.ofNat 8 k).toNat = k := by simp; omega
    rw [slotOfFetchedBytes, if_neg, hop]
    intro h
    rw [h] at hop
    exact hcb hop.symm
  · refine ⟨0xCB, BitVec.ofNat 8 (k - 256), ?_⟩
    rw [slotOfFetchedBytes, if_pos rfl, BitVec.toNat_ofNat]
    omega

/-- The slot determines the row (R128). -/
theorem row_decodeBytes_of_slot_eq (op n1 n2 op' m1 m2 : Byte)
    (h : (decodeBytes op n1 n2).row.slot = (decodeBytes op' m1 m2).row.slot) :
    (decodeBytes op n1 n2).row = (decodeBytes op' m1 m2).row := by
  rw [slotOfFetchedBytes, slotOfFetchedBytes] at h
  have hop : op = op' := by
    split at h <;> split at h
    · next h1 h2 => exact h1.trans h2.symm
    · omega
    · omega
    · exact BitVec.eq_of_toNat_eq h
  subst hop
  refine row_decodeBytes op n1 n2 m1 m2 fun hcb => BitVec.eq_of_toNat_eq ?_
  rw [if_pos hcb, if_pos hcb] at h
  omega

/-! ### The unimplemented slots -/

theorem row_unimplemented {op : Byte} {i : Instr} (h : (op, i) ∈ unimplementedSlots) :
    i.row = ⟨op.toNat, none, [], 1, [], .keep, .keep, .keep, .keep⟩ := by
  simp only [unimplementedSlots, List.mem_cons, List.not_mem_nil, or_false, Prod.mk.injEq] at h
  obtain ⟨rfl, rfl⟩ | ⟨rfl, rfl⟩ | ⟨rfl, rfl⟩ | ⟨rfl, rfl⟩ | ⟨rfl, rfl⟩ | ⟨rfl, rfl⟩ | ⟨rfl, rfl⟩ | ⟨rfl, rfl⟩ |
    ⟨rfl, rfl⟩ | ⟨rfl, rfl⟩ | ⟨rfl, rfl⟩ := h <;> rfl

/-- Only the eleven bytes of R125 decode to an unimplemented slot. -/
theorem opcode_unimplemented_of_decodeBytes {op n1 n2 : Byte}
    (h : decodeBytes op n1 n2 ∈ unimplementedSlots.map Prod.snd) : op ∈ unimplementedSlots.map Prod.fst := by
  obtain ⟨⟨op', i⟩, hmem, hi⟩ := List.mem_map.mp h
  have hslot := slotOfFetchedBytes op n1 n2
  rw [← hi, row_unimplemented hmem] at hslot
  dsimp only at hslot
  suffices hop : op' = op from hop ▸ List.mem_map_of_mem hmem
  split at hslot
  · have := op'.isLt
    omega
  · exact BitVec.eq_of_toNat_eq hslot

/-! ### The entry of every family -/

/-- The row of an implemented instruction has this mnemonic, these descriptors, this length and these declared costs,
none of which is 0 or above 24. -/
structure HasEntry (i : Instr) (m : Mnemonic) (operands : List OperandDescriptor) (len : Nat) (costs : List Nat) :
    Prop where
  describes : Describes i m operands
  size : i.size = len
  cycles : i.row.cycles = costs
  range : ∀ n ∈ costs, 0 < n ∧ n ≤ 24

/-- The cost of LD r,r': 8 where one of the two is (HL) (R201 to R203). -/
def ldCycles : Operand8 → Operand8 → Nat
  | .reg _, .reg _ => 4
  | _, _ => 8

/-- The cost of LD r,n8 (R204, R205). -/
def ldImmCycles : Operand8 → Nat
  | .reg _ => 8
  | .indHl => 12

theorem hasEntry_mkLd (d o : Operand8) (h : ¬(d = .indHl ∧ o = .indHl)) :
    HasEntry (mkLd d o) .ld [operand8Descriptor d, operand8Descriptor o] 1 [ldCycles d o] := by
  cases d with
  | reg dst =>
    cases o with
    | reg src => cases dst <;> cases src <;> exact ⟨⟨rfl, rfl⟩, rfl, rfl, by decide⟩
    | indHl => cases dst <;> exact ⟨⟨rfl, rfl⟩, rfl, rfl, by decide⟩
  | indHl =>
    cases o with
    | reg src => cases src <;> exact ⟨⟨rfl, rfl⟩, rfl, rfl, by decide⟩
    | indHl => exact absurd ⟨rfl, rfl⟩ h

theorem hasEntry_mkLdImm (d : Operand8) (n : Byte) :
    HasEntry (mkLdImm d n) .ld [operand8Descriptor d, .value .n8] 2 [ldImmCycles d] := by
  cases d with
  | reg r => cases r <;> exact ⟨⟨rfl, rfl⟩, rfl, rfl, by decide⟩
  | indHl => exact ⟨⟨rfl, rfl⟩, rfl, rfl, by decide⟩

theorem hasEntry_mkInc (o : Operand8) : HasEntry (mkInc o) .inc [operand8Descriptor o] 1 [incDecCycles o] := by
  cases o with
  | reg r => cases r <;> exact ⟨⟨rfl, rfl⟩, rfl, rfl, by decide⟩
  | indHl => exact ⟨⟨rfl, rfl⟩, rfl, rfl, by decide⟩

theorem hasEntry_mkDec (o : Operand8) : HasEntry (mkDec o) .dec [operand8Descriptor o] 1 [incDecCycles o] := by
  cases o with
  | reg r => cases r <;> exact ⟨⟨rfl, rfl⟩, rfl, rfl, by decide⟩
  | indHl => exact ⟨⟨rfl, rfl⟩, rfl, rfl, by decide⟩

theorem hasEntry_mkLdPairImm (p : Pair) (n : Word) :
    HasEntry (mkLdPairImm p n) .ld [.value (.pair p), .value .n16] 3 [12] := by
  cases p <;> exact ⟨⟨rfl, rfl⟩, rfl, rfl, by decide⟩

theorem hasEntry_mkAddHl (p : Pair) : HasEntry (mkAddHl p) .add [.value (.pair .hl), .value (.pair p)] 1 [8] := by
  cases p <;> exact ⟨⟨rfl, rfl⟩, rfl, rfl, by decide⟩

theorem hasEntry_mkIncPair (p : Pair) : HasEntry (mkIncPair p) .inc [.value (.pair p)] 1 [8] := by
  cases p <;> exact ⟨⟨rfl, rfl⟩, rfl, rfl, by decide⟩

theorem hasEntry_mkDecPair (p : Pair) : HasEntry (mkDecPair p) .dec [.value (.pair p)] 1 [8] := by
  cases p <;> exact ⟨⟨rfl, rfl⟩, rfl, rfl, by decide⟩

theorem hasEntry_mkPush (q : StackPair) : HasEntry (mkPush q) .push [stackPairDescriptor q] 1 [16] := by
  cases q <;> exact ⟨⟨rfl, rfl⟩, rfl, rfl, by decide⟩

theorem hasEntry_mkPop (q : StackPair) : HasEntry (mkPop q) .pop [stackPairDescriptor q] 1 [12] := by
  cases q <;> exact ⟨⟨rfl, rfl⟩, rfl, rfl, by decide⟩

theorem hasEntry_mkAlu (op : AluOp) (src : AluSrc) :
    HasEntry (mkAlu op src) (aluMnemonic op) [.value (.reg .a), aluSrcDescriptor src] (aluLength src)
      [aluCycles src] := by
  cases src with
  | reg r => cases op <;> cases r <;> exact ⟨⟨rfl, rfl⟩, rfl, rfl, by decide⟩
  | indHl => cases op <;> exact ⟨⟨rfl, rfl⟩, rfl, rfl, by decide⟩
  | imm n => cases op <;> exact ⟨⟨rfl, rfl⟩, rfl, rfl, by simp [aluCycles]⟩

theorem hasEntry_mkRot (op : RotOp) (o : Operand8) :
    HasEntry (mkRot op o) (rotMnemonic op) [operand8Descriptor o] 2 [rmwCycles o] := by
  cases o with
  | reg r => cases op <;> cases r <;> exact ⟨⟨rfl, rfl⟩, rfl, rfl, by decide⟩
  | indHl => cases op <;> exact ⟨⟨rfl, rfl⟩, rfl, rfl, by decide⟩

theorem hasEntry_mkBit (b : Fin 8) (o : Operand8) :
    HasEntry (mkBit b o) .bit [.value (.bit b), operand8Descriptor o] 2 [bitCycles o] := by
  cases o with
  | reg r => fin_cases b <;> cases r <;> exact ⟨⟨rfl, rfl⟩, rfl, rfl, by decide⟩
  | indHl => fin_cases b <;> exact ⟨⟨rfl, rfl⟩, rfl, rfl, by decide⟩

theorem hasEntry_mkRes (b : Fin 8) (o : Operand8) :
    HasEntry (mkRes b o) .res [.value (.bit b), operand8Descriptor o] 2 [rmwCycles o] := by
  cases o with
  | reg r => fin_cases b <;> cases r <;> exact ⟨⟨rfl, rfl⟩, rfl, rfl, by decide⟩
  | indHl => fin_cases b <;> exact ⟨⟨rfl, rfl⟩, rfl, rfl, by decide⟩

theorem hasEntry_mkSet (b : Fin 8) (o : Operand8) :
    HasEntry (mkSet b o) .set [.value (.bit b), operand8Descriptor o] 2 [rmwCycles o] := by
  cases o with
  | reg r => fin_cases b <;> cases r <;> exact ⟨⟨rfl, rfl⟩, rfl, rfl, by decide⟩
  | indHl => fin_cases b <;> exact ⟨⟨rfl, rfl⟩, rfl, rfl, by decide⟩

theorem hasEntry_mkJr (cc : Cond) (e : Byte) :
    HasEntry (mkJr cc e) .jr [.value (.cond cc), .value .e8] 2 [12, 8] := by
  cases cc <;> exact ⟨⟨rfl, rfl⟩, rfl, rfl, by decide⟩

theorem hasEntry_mkJp (cc : Cond) (addr : Word) :
    HasEntry (mkJp cc addr) .jp [.value (.cond cc), .value .a16] 3 [16, 12] := by
  cases cc <;> exact ⟨⟨rfl, rfl⟩, rfl, rfl, by decide⟩

theorem hasEntry_mkCall (cc : Cond) (addr : Word) :
    HasEntry (mkCall cc addr) .call [.value (.cond cc), .value .a16] 3 [24, 12] := by
  cases cc <;> exact ⟨⟨rfl, rfl⟩, rfl, rfl, by decide⟩

theorem hasEntry_mkRet (cc : Cond) : HasEntry (mkRet cc) .ret [.value (.cond cc)] 1 [20, 8] := by
  cases cc <;> exact ⟨⟨rfl, rfl⟩, rfl, rfl, by decide⟩

theorem hasEntry_mkRst (v : Fin 8) : HasEntry (mkRst v) .rst [.value (.vector v)] 1 [16] := by
  fin_cases v <;> exact ⟨⟨rfl, rfl⟩, rfl, rfl, by decide⟩

/-- Settles O59: each family by its entry, each slot of its own by its row. -/
theorem decodeTableOperands : Obligations.DecodeTableOperands := by
  unfold Obligations.DecodeTableOperands
  intro d o p q op src rot b cc n w
  refine ⟨fun h => (hasEntry_mkLd d o h).describes, (hasEntry_mkLdImm d n).describes, (hasEntry_mkInc o).describes,
    (hasEntry_mkDec o).describes, (hasEntry_mkLdPairImm p w).describes, (hasEntry_mkAddHl p).describes,
    (hasEntry_mkIncPair p).describes, (hasEntry_mkDecPair p).describes, (hasEntry_mkPush q).describes,
    (hasEntry_mkPop q).describes, (hasEntry_mkAlu op src).describes, (hasEntry_mkRot rot o).describes,
    (hasEntry_mkBit b o).describes, (hasEntry_mkRes b o).describes, (hasEntry_mkSet b o).describes,
    (hasEntry_mkJr cc n).describes, (hasEntry_mkJp cc w).describes, (hasEntry_mkCall cc w).describes,
    (hasEntry_mkRet cc).describes, (hasEntry_mkRst b).describes, ?_⟩
  and_intros <;> rfl

/-! ### Conditional instructions -/

/-- A conditional slot declares two costs, and its first operand is its condition (R129, R130). -/
theorem hasEntry_of_hasCondition {i : Instr} {cc : Cond} (h : HasCondition i cc) :
    ∃ m operands len taken untaken, HasEntry i m (.value (.cond cc) :: operands) len [taken, untaken] := by
  obtain ⟨w, e, rfl | rfl | rfl | rfl⟩ := h
  · exact ⟨_, _, _, _, _, hasEntry_mkJr cc e⟩
  · exact ⟨_, _, _, _, _, hasEntry_mkJp cc w⟩
  · exact ⟨_, _, _, _, _, hasEntry_mkCall cc w⟩
  · exact ⟨_, _, _, _, _, hasEntry_mkRet cc⟩

theorem length_cycles_of_hasCondition {i : Instr} {cc : Cond} (h : HasCondition i cc) : i.row.cycles.length = 2 := by
  obtain ⟨m, operands, len, taken, untaken, hentry⟩ := hasEntry_of_hasCondition h
  rw [hentry.cycles]
  rfl

/-- The condition is the one that the row's first descriptor names. -/
theorem hasCondition_unique {i : Instr} {cc dd : Cond} (hc : HasCondition i cc) (hd : HasCondition i dd) : cc = dd := by
  obtain ⟨_, _, _, _, _, ⟨-, hcc⟩, -⟩ := hasEntry_of_hasCondition hc
  obtain ⟨_, _, _, _, _, ⟨-, hdd⟩, -⟩ := hasEntry_of_hasCondition hd
  simpa using congrArg List.head? (hcc.symm.trans hdd)

theorem hasCondition_mem_transferSlots {i : Instr} {cc : Cond} (h : HasCondition i cc) :
    i.row.slot ∈ transferSlots := by
  obtain ⟨w, e, rfl | rfl | rfl | rfl⟩ := h <;> cases cc <;> exact of_decide_eq_true rfl

end Sys2Proof.Machine
end

section
/-! What every implemented instruction does to PC, the cycle counter and the interrupt latches, said once for every form. -/

namespace Sys2Proof.Machine

open Sys2Proof.Stated

/-- PC, the cycle counter and (but for DI, RETI and EI) the interrupt latches are as they were: what is left of these
to an instruction is how it ends. -/
structure Underway (i : Instr) (s u : State) : Prop where
  pc : u.pc = s.pc
  count : u.cycleCount = s.cycleCount
  latches : i ∉ [.di, .reti, .ei] → u.ime = s.ime ∧ u.imePending = s.imePending

theorem Underway.refl (i : Instr) (s : State) : Underway i s s := ⟨rfl, rfl, fun _ => ⟨rfl, rfl⟩⟩

theorem Underway.setReg (i : Instr) (s : State) (r : Reg8) (v : Byte) : Underway i s (s.setReg r v) :=
  ⟨by simp, by simp, by simp⟩

theorem Underway.setPair (i : Instr) (s : State) (p : Pair) (v : Word) : Underway i s (s.setPair p v) :=
  ⟨by simp, by simp, by simp⟩

theorem Underway.setOperand (i : Instr) (s : State) (o : Operand8) (v : Byte) : Underway i s (s.setOperand o v) :=
  ⟨by simp, by simp, by simp⟩

theorem Underway.writeByte (i : Instr) (s : State) (x : Word) (v : Byte) : Underway i s (s.writeByte x v) :=
  ⟨rfl, rfl, fun _ => ⟨rfl, rfl⟩⟩

theorem Underway.push16 (i : Instr) (s : State) (v : Word) : Underway i s (s.push16 v) :=
  ⟨rfl, rfl, fun _ => ⟨rfl, rfl⟩⟩

theorem Underway.popped (i : Instr) (s : State) : Underway i s s.popped :=
  ⟨rfl, rfl, fun _ => ⟨rfl, rfl⟩⟩

theorem Underway.popped_setStackPair (i : Instr) (s : State) (q : StackPair) (v : Word) :
    Underway i s (s.popped.setStackPair q v) := by
  cases q <;> exact ⟨rfl, rfl, fun _ => ⟨rfl, rfl⟩⟩

theorem Underway.accumulated (i : Instr) (s : State) (op : AluOp) (v : Byte) : Underway i s (s.accumulated op v) := by
  cases op <;> exact ⟨rfl, rfl, fun _ => ⟨rfl, rfl⟩⟩

/-- Flags are no part of what is under way. -/
theorem Underway.setF {i : Instr} {s u : State} (h : Underway i s u) (f : Byte) : Underway i s { u with f := f } :=
  ⟨h.pc, h.count, h.latches⟩

/-- How an implemented instruction may end: at the next sequential instruction, at the cost of its slot; elsewhere, if
its slot is that of a control transfer; or on a condition either way, each at its own cost (R145, R146). -/
inductive Flow (i : Instr) (s t : State) : Prop where
  | sequential {m : Mnemonic} {operands : List OperandDescriptor} {n : Nat} (entry : HasEntry i m operands i.size [n])
      (pc : t.pc = s.pc + BitVec.ofNat 16 i.size) (count : t.cycleCount = s.cycleCount + BitVec.ofNat 64 n)
  | transfer {m : Mnemonic} {operands : List OperandDescriptor} {n : Nat} (entry : HasEntry i m operands i.size [n])
      (slot : i.row.slot ∈ transferSlots) (count : t.cycleCount = s.cycleCount + BitVec.ofNat 64 n)
  | conditional {m : Mnemonic} {operands : List OperandDescriptor} {taken untaken : Nat} {cc : Cond}
      (entry : HasEntry i m operands i.size [taken, untaken]) (condition : HasCondition i cc)
      (pc : s.cond cc = false → t.pc = s.pc + BitVec.ofNat 16 i.size)
      (count : t.cycleCount = s.cycleCount + BitVec.ofNat 64 (if s.cond cc then taken else untaken))

/-- The outcome is a next state, reached as the instruction's slot declares, with the latches kept but by DI, RETI and
EI. -/
def Completes (i : Instr) (s : State) (r : Result) : Prop :=
  ∃ t, r = .next t ∧ Flow i s t ∧ (i ∉ [.di, .reti, .ei] → t.ime = s.ime ∧ t.imePending = s.imePending)

section
variable {i : Instr} {m : Mnemonic} {operands : List OperandDescriptor} {len : Nat} {s u : State}

theorem HasEntry.completes_finish {n : Nat} (h : HasEntry i m operands len [n]) (hu : Underway i s u) :
    Completes i s (finish len n u) := by
  obtain ⟨hpc, hcount, hlatches⟩ := hu
  obtain rfl := h.size
  exact ⟨_, rfl, .sequential h (by rw [← hpc]) (by rw [← hcount]), hlatches⟩

theorem HasEntry.completes_finishAt {n : Nat} (h : HasEntry i m operands len [n]) (hslot : i.row.slot ∈ transferSlots)
    {target : Word} (hu : Underway i s u) : Completes i s (finishAt target n u) := by
  obtain ⟨-, hcount, hlatches⟩ := hu
  obtain rfl := h.size
  exact ⟨_, rfl, .transfer h hslot (by rw [← hcount]), hlatches⟩

theorem HasEntry.completes_cond {taken untaken : Nat} {cc : Cond} (h : HasEntry i m operands len [taken, untaken])
    {target : Word} (hc : HasCondition i cc) (hu : Underway i s u) :
    Completes i s (if s.cond cc then finishAt target taken u else finish len untaken s) := by
  obtain ⟨-, hcount, hlatches⟩ := hu
  obtain rfl := h.size
  cases hs : s.cond cc with
  | true => exact ⟨_, rfl, .conditional h hc (by simp [hs]) (by simp [hs, hcount]), hlatches⟩
  | false => exact ⟨_, rfl, .conditional h hc (fun _ => rfl) (by simp [hs]), fun _ => ⟨rfl, rfl⟩⟩

end

theorem completes_mkLd (d o : Operand8) (s : State) : Completes (mkLd d o) s (exec (mkLd d o) s) := by
  cases d with
  | reg dst =>
    cases o with
    | reg src => rw [exec_mkLd_reg]; exact (hasEntry_mkLd _ _ (by simp)).completes_finish (.setReg _ s dst _)
    | indHl => rw [exec_mkLd_fromHl]; exact (hasEntry_mkLd _ _ (by simp)).completes_finish (.setReg _ s dst _)
  | indHl =>
    cases o with
    | reg src => rw [exec_mkLd_toHl]; exact (hasEntry_mkLd _ _ (by simp)).completes_finish (.writeByte _ s s.hl _)
    | indHl =>
      have hhalt : HasEntry .halt .halt [] 1 [4] := ⟨⟨rfl, rfl⟩, rfl, rfl, by decide⟩
      exact hhalt.completes_finish ⟨rfl, rfl, fun _ => ⟨rfl, rfl⟩⟩

theorem completes_mkLdImm (d : Operand8) (n : Byte) (s : State) :
    Completes (mkLdImm d n) s (exec (mkLdImm d n) s) := by
  cases d with
  | reg dst => rw [exec_mkLdImm_reg]; exact (hasEntry_mkLdImm _ n).completes_finish (.setReg _ s dst n)
  | indHl => exact (hasEntry_mkLdImm _ n).completes_finish (.writeByte _ s s.hl n)

theorem mkRst_mem_transferSlots (v : Fin 8) : (mkRst v).row.slot ∈ transferSlots := by
  fin_cases v <;> decide

/-- What every implemented instruction that the decoder gives does: it completes, as its slot declares. -/
theorem InstrForm.completes {i : Instr} (hi : InstrForm i) (himpl : i ∉ unimplementedSlots.map Prod.snd) (s : State) :
    Completes i s (exec i s) := by
  cases hi with
  | ld d o => exact completes_mkLd d o s
  | ldImm d n => exact completes_mkLdImm d n s
  | inc o => rw [exec_mkInc]; exact (hasEntry_mkInc o).completes_finish ((Underway.setOperand _ s o _).setF _)
  | dec o => rw [exec_mkDec]; exact (hasEntry_mkDec o).completes_finish ((Underway.setOperand _ s o _).setF _)
  | ldPairImm p n => rw [exec_mkLdPairImm]; exact (hasEntry_mkLdPairImm p n).completes_finish (.setPair _ s p n)
  | addHl p => rw [exec_mkAddHl]; exact (hasEntry_mkAddHl p).completes_finish ⟨rfl, rfl, fun _ => ⟨rfl, rfl⟩⟩
  | incPair p => rw [exec_mkIncPair]; exact (hasEntry_mkIncPair p).completes_finish (.setPair _ s p _)
  | decPair p => rw [exec_mkDecPair]; exact (hasEntry_mkDecPair p).completes_finish (.setPair _ s p _)
  | push q => rw [exec_mkPush]; exact (hasEntry_mkPush q).completes_finish (.push16 _ s _)
  | pop q => rw [exec_mkPop]; exact (hasEntry_mkPop q).completes_finish (.popped_setStackPair _ s q _)
  | alu op src => rw [exec_mkAlu]; exact (hasEntry_mkAlu op src).completes_finish (.accumulated _ s op _)
  | rot op o => rw [exec_mkRot]; exact (hasEntry_mkRot op o).completes_finish ((Underway.setOperand _ s o _).setF _)
  | bit b o => rw [exec_mkBit]; exact (hasEntry_mkBit b o).completes_finish ((Underway.refl _ s).setF _)
  | res b o => rw [exec_mkRes]; exact (hasEntry_mkRes b o).completes_finish (.setOperand _ s o _)
  | set b o => rw [exec_mkSet]; exact (hasEntry_mkSet b o).completes_finish (.setOperand _ s o _)
  | jr cc e =>
    rw [exec_mkJr]; exact (hasEntry_mkJr cc e).completes_cond ⟨0, e, .inl rfl⟩ (.refl _ s)
  | jp cc addr =>
    rw [exec_mkJp]; exact (hasEntry_mkJp cc addr).completes_cond ⟨addr, 0, .inr (.inl rfl)⟩ (.refl _ s)
  | call cc addr =>
    rw [exec_mkCall]
    exact (hasEntry_mkCall cc addr).completes_cond ⟨addr, 0, .inr (.inr (.inl rfl))⟩ (.push16 _ s _)
  | ret cc =>
    rw [exec_mkRet]; exact (hasEntry_mkRet cc).completes_cond ⟨0, 0, .inr (.inr (.inr rfl))⟩ (.popped _ s)
  | rst v =>
    rw [exec_mkRst]; exact (hasEntry_mkRst v).completes_finishAt (mkRst_mem_transferSlots v) (.push16 _ s _)
  | nop | stop | rlca | rrca | rla | rra | daa | cpl | scf | ccf
  | ldIndBcA | ldIndDeA | ldIndHlIncA | ldIndHlDecA | ldAIndBc | ldAIndDe | ldAIndHlInc | ldAIndHlDec
  | ldhIndA8A | ldhAIndA8 | ldIndCA | ldAIndC | ldIndA16A | ldAIndA16 | ldIndA16Sp | ldSpHl | addSpE8 | ldHlSpE8 =>
    exact HasEntry.completes_finish ⟨⟨rfl, rfl⟩, rfl, rfl, by decide⟩ ⟨rfl, rfl, fun _ => ⟨rfl, rfl⟩⟩
  | di | ei =>
    exact HasEntry.completes_finish ⟨⟨rfl, rfl⟩, rfl, rfl, by decide⟩ ⟨rfl, rfl, fun h => absurd (by simp) h⟩
  | jrE8 | jpA16 | jpHl | callA16 | plainRet =>
    exact HasEntry.completes_finishAt ⟨⟨rfl, rfl⟩, rfl, rfl, by decide⟩ (of_decide_eq_true rfl)
      ⟨rfl, rfl, fun _ => ⟨rfl, rfl⟩⟩
  | reti =>
    exact HasEntry.completes_finishAt ⟨⟨rfl, rfl⟩, rfl, rfl, by decide⟩ (of_decide_eq_true rfl)
      ⟨rfl, rfl, fun h => absurd (by simp) h⟩
  | unimplemented op _ h => exact absurd (List.mem_map_of_mem h) himpl

end Sys2Proof.Machine
end

section
/-! The statements about one step: what runs, what it costs, where PC goes, what it leaves in the interrupt latches (30_encoding.md §8). -/

namespace Sys2Proof.Machine

open Sys2Proof.Stated

/-! ### The step by run_state -/

theorem step_of_running {s : State} (hs : s.runState = .running) :
    step s = endStep s.imePending (exec s.fetchInstr s) := by
  simp only [step, hs]

theorem step_of_idle {s : State} (hs : s.runState = .halted ∨ s.runState = .stopped) : step s = .next s.idle := by
  obtain hs | hs := hs <;> simp only [step, hs]

theorem step_of_fatal {s : State} (hs : s.runState = .fatal) : step s = .fault s.fatalFault := by
  simp only [step, hs]

/-- A step that ends outside FATAL reports what it added to the cycle counter (R147). -/
theorem reportOf_next {s t : State} {n : Nat} (hrun : t.runState ≠ .fatal)
    (hcount : t.cycleCount = s.cycleCount + BitVec.ofNat 64 n) (hn : n < 2 ^ 64) :
    reportOf s (.next t) = some (.ok n) := by
  have hdiff : (t.cycleCount - s.cycleCount).toNat = n := by
    rw [hcount, BitVec.add_comm, BitVec.add_sub_cancel, BitVec.toNat_ofNat, Nat.mod_eq_of_lt hn]
  rw [reportOf, if_neg hrun, hdiff]

/-- Settles O14: the idle state is the one that the statement writes out, and the report is the 4 cycles it adds. -/
theorem idleStepOnlyCounts : Obligations.IdleStepOnlyCounts := by
  unfold Obligations.IdleStepOnlyCounts
  intro s hs
  have hstep := step_of_idle hs
  refine ⟨hstep, ?_⟩
  have hrun : s.idle.runState ≠ .fatal := by
    obtain hs | hs := hs <;> simp [hs]
  rw [stepResult, hstep]
  exact reportOf_next hrun rfl (by decide)

/-- Settles O15: the fault carries the fatal record, and the report repeats it. -/
theorem fatalHasNoSuccessor : Obligations.FatalHasNoSuccessor := by
  unfold Obligations.FatalHasNoSuccessor
  intro s hs
  have hstep := step_of_fatal hs
  exact ⟨hstep, by rw [stepResult, hstep]; rfl⟩

/-- The instruction that the list decoder answers with is that of the first three bytes. -/
theorem eq_decodeBytes_of_decode {op : Byte} {bytes rest : List Byte} {i : Instr}
    (h : decode (op :: bytes) = .ok (i, rest)) : i = decodeBytes op (bytes.getD 0 0) (bytes.getD 1 0) := by
  simp only [decode] at h
  split at h
  · cases h
  · cases h; rfl

/-- Settles O13: three bytes at PC decode to what the step fetches, and `endStep` is the promotion. -/
theorem stepRunsInstructionAtPc : Obligations.StepRunsInstructionAtPc := by
  unfold Obligations.StepRunsInstructionAtPc
  intro s i rest hs hdec
  have hi := eq_decodeBytes_of_decode hdec
  simp only [List.getD_cons_zero, List.getD_cons_succ] at hi
  rw [step_of_running hs, State.fetchInstr, ← hi]
  cases exec i s <;> rfl

/-! ### Costs and PC -/

/-- An implemented instruction declares one cost, or two and a condition (R129).
The entry is the same in every state, so the completion from any one of them shows it. -/
theorem InstrForm.cycles_cases {i : Instr} (hi : InstrForm i) (himpl : i ∉ unimplementedSlots.map Prod.snd) :
    ∃ m operands len costs, HasEntry i m operands len costs ∧
      (costs.length = 1 ∨ (costs.length = 2 ∧ ∃ cc, HasCondition i cc)) := by
  obtain ⟨t, -, hflow, -⟩ := hi.completes himpl State.reset
  cases hflow with
  | sequential entry pc count => exact ⟨_, _, _, _, entry, .inl rfl⟩
  | transfer entry slot count => exact ⟨_, _, _, _, entry, .inl rfl⟩
  | conditional entry condition pc count => exact ⟨_, _, _, _, entry, .inr ⟨rfl, _, condition⟩⟩

theorem length_cycles_eq_two_iff {i : Instr} (hi : InstrForm i) (himpl : i ∉ unimplementedSlots.map Prod.snd) :
    i.row.cycles.length = 2 ↔ ∃ cc, HasCondition i cc := by
  refine ⟨fun h => ?_, fun ⟨cc, hcc⟩ => length_cycles_of_hasCondition hcc⟩
  obtain ⟨m, operands, len, costs, entry, hone | ⟨-, hcond⟩⟩ := hi.cycles_cases himpl
  · rw [entry.cycles] at h
    omega
  · exact hcond

/-- The cost is the declared one that the condition chooses. -/
theorem Flow.exists_cost {i : Instr} {s t : State} (h : Flow i s t) :
    ∃ n ∈ i.row.cycles, 0 < n ∧ n ≤ 24 ∧ t.cycleCount = s.cycleCount + BitVec.ofNat 64 n ∧
      (∀ cc, HasCondition i cc → s.cond cc = false → n = i.row.cycles.getD 1 0) ∧
      ((∀ cc, HasCondition i cc → s.cond cc = true) → n = i.row.cycles.getD 0 0) := by
  have single {n : Nat} (hcycles : i.row.cycles = [n]) (cc : Cond) : ¬ HasCondition i cc := by
    intro hcc
    have hlen := length_cycles_of_hasCondition hcc
    simp [hcycles] at hlen
  cases h with
  | sequential entry pc count | transfer entry slot count =>
    obtain ⟨hpos, hle⟩ := entry.range _ List.mem_cons_self
    refine ⟨_, ?_, hpos, hle, count, fun cc hcc => absurd hcc (single entry.cycles cc), fun _ => ?_⟩
    · simp [entry.cycles]
    · simp [entry.cycles]
  | @conditional m operands taken untaken cc entry condition pc count =>
    have hmem : (if s.cond cc then taken else untaken) ∈ [taken, untaken] := by
      split <;> simp
    obtain ⟨hpos, hle⟩ := entry.range _ hmem
    refine ⟨_, entry.cycles ▸ hmem, hpos, hle, count, fun dd hdd hfalse => ?_, fun htrue => ?_⟩
    · obtain rfl := hasCondition_unique condition hdd
      simp [entry.cycles, hfalse]
    · simp [entry.cycles, htrue cc condition]

/-- Settles O17: an implemented opcode byte selects an implemented slot, whose instruction completes at the cost its
condition chooses; and neither it nor the promotion of an EI enters FATAL. -/
theorem stepReportsDeclaredCost : Obligations.StepReportsDeclaredCost := by
  unfold Obligations.StepReportsDeclaredCost
  intro s hs hop
  have himpl : s.fetchInstr ∉ unimplementedSlots.map Prod.snd := fun h => hop (opcode_unimplemented_of_decodeBytes h)
  obtain ⟨u, hu, hflow, -⟩ := s.fetchInstr_form.completes himpl s
  obtain ⟨n, hmem, hpos, hle, hcount, hfalse, htrue⟩ := hflow.exists_cost
  have hstep : step s = .next (u.promoteIme s.imePending) := by
    rw [step_of_running hs, hu]
    rfl
  have hcounted : (u.promoteIme s.imePending).cycleCount = s.cycleCount + BitVec.ofNat 64 n := by
    rw [State.promoteIme_cycleCount, hcount]
  have hrun : (u.promoteIme s.imePending).runState ≠ .fatal := by
    rw [step_runState_of_running hstep hs, Ne, getD_running_eq_iff (by simp), entersRunState_eq_fatal_iff]
    exact himpl
  refine ⟨_, n, hstep, hmem, hpos, hcounted, ?_, hfalse, htrue, length_cycles_eq_two_iff s.fetchInstr_form himpl⟩
  rw [stepResult, hstep]
  exact reportOf_next hrun hcounted (by omega)

/-- Settles O18: of the ways to end, the hypothesis leaves the sequential one and the condition that is false. -/
theorem sequentialPc : Obligations.SequentialPc := by
  unfold Obligations.SequentialPc
  intro i s hwf himpl hseq
  obtain ⟨t, ht, hflow, -⟩ := (form_of_wf i hwf).completes himpl s
  refine ⟨t, ht, ?_⟩
  cases hflow with
  | sequential entry pc count => exact pc
  | transfer entry slot count =>
    obtain hslot | ⟨cc, hcc, -⟩ := hseq
    · exact absurd slot hslot
    · have hlen := length_cycles_of_hasCondition hcc
      simp [entry.cycles] at hlen
  | conditional entry condition pc count =>
    obtain hslot | ⟨cc, hcc, hfalse⟩ := hseq
    · exact absurd (hasCondition_mem_transferSlots condition) hslot
    · exact pc (hasCondition_unique condition hcc ▸ hfalse)

/-- Settles O58: a slot is found by the bytes that select it and determines its row; what the row declares is the
entry of its instruction. -/
theorem decodeTableEntries : Obligations.DecodeTableEntries := by
  unfold Obligations.DecodeTableEntries
  refine ⟨fun k hk hcb => ?_, fun i hwf => ?_⟩
  · obtain ⟨op, n1, hslot⟩ := exists_slot_decodeBytes k hk hcb
    exact ⟨_, wf_decodeBytes op n1 0, hslot⟩
  obtain ⟨op, n1, n2, rfl⟩ := exists_decodeBytes_eq hwf
  refine ⟨slot_decodeBytes_lt op n1 n2, slot_decodeBytes_ne_cb op n1 n2, fun j hj hslot => ?_, fun hun => ?_,
    fun himpl => ?_⟩
  · obtain ⟨op', m1, m2, rfl⟩ := exists_decodeBytes_eq hj
    exact row_decodeBytes_of_slot_eq _ _ _ _ _ _ hslot
  · obtain ⟨⟨op', i⟩, hmem, hi⟩ := List.mem_map.mp hun
    rw [← hi, row_unimplemented hmem]
    exact ⟨rfl, rfl, rfl⟩
  · obtain ⟨m, operands, len, costs, entry, hcosts⟩ := (decodeBytes_form op n1 n2).cycles_cases himpl
    obtain ⟨⟨hm, -⟩, -, hcycles, hrange⟩ := entry
    refine ⟨by rw [hm]; rfl, fun n hn => (hrange n (hcycles ▸ hn)).1, fun ⟨cc, hcc⟩ =>
      length_cycles_of_hasCondition hcc, fun hnone => ?_⟩
    obtain hone | ⟨-, hcond⟩ := hcosts
    · rw [hcycles, hone]
    · exact absurd hcond hnone

/-! ### The interrupt latches -/

/-- Outside FATAL a promotion sets ime and takes the pending EI back; without one, both stay (R152). -/
theorem State.promoteIme_latches {u : State} (arm : Bool) (hu : u.runState ≠ .fatal) :
    (u.promoteIme arm).ime = (u.ime || arm && u.imePending) ∧
      (u.promoteIme arm).imePending = (u.imePending && !arm) := by
  cases arm with
  | false => simp [State.promoteIme]
  | true => cases hp : u.imePending <;> simp [State.promoteIme, hu, hp]

/-- Settles O24: DI, RETI and EI write the latches before the promotion, any other instruction leaves them to it. -/
theorem interruptLatchesAfterStep : Obligations.InterruptLatchesAfterStep := by
  unfold Obligations.InterruptLatchesAfterStep
  intro s t hs hstep ht
  obtain ⟨hidle, -⟩ | ⟨-, u, hu, rfl⟩ := step_next_cases s t hstep
  · simp [hs] at hidle
  rw [State.promoteIme_runState] at ht
  obtain ⟨hime, hpending⟩ := u.promoteIme_latches s.imePending ht
  rw [hime, hpending]
  have ran {i : Instr} (hi : s.fetchInstr = i) : exec i s = .next u := hi ▸ hu
  refine ⟨fun hi => ?_, fun hi => ?_, fun hi => ?_, fun hi => ?_⟩
  · cases ran hi
    simp
  · cases ran hi
    simp
  · cases ran hi
    simp
  · have himpl : s.fetchInstr ∉ unimplementedSlots.map Prod.snd := by
      rw [← entersRunState_eq_fatal_iff, ← getD_running_eq_iff (by simp), ← step_runState_of_running hstep hs,
        State.promoteIme_runState]
      exact ht
    obtain ⟨u', hu', -, hlatches⟩ := s.fetchInstr_form.completes himpl s
    obtain rfl : u = u' := by simpa [hu] using hu'
    obtain ⟨hsime, hspending⟩ := hlatches hi
    rw [hsime, hspending]
    cases s.imePending <;> simp

end Sys2Proof.Machine
end

section
/-! The bytes of an instruction, what it leaves when it ends at the next one, and by these the statements about data
moves (40_data_move.md). -/

namespace Sys2Proof.Machine

open Sys2Proof.Stated

/-! ### Encoding -/

theorem length_encode (i : Instr) : (encode i).length = i.size := by
  cases i <;> rfl

theorem encode_ne_nil (i : Instr) : encode i ≠ [] := by
  cases i <;> exact List.cons_ne_nil _ _

/-- Decoding gives a well-formed instruction back from its bytes, and leaves the bytes that follow. -/
theorem decode_encode_append (i : Instr) (h : i.wf = true) (rest : List Byte) :
    decode (encode i ++ rest) = .ok (i, rest) := by
  obtain ⟨op, operands, henc⟩ := List.exists_cons_of_ne_nil (encode_ne_nil i)
  have hsize : i.size = operands.length + 1 := by rw [← length_encode, henc, List.length_cons]
  have hdec := decodeBytes_encode i h rest
  simp only [henc, List.cons_append, List.getD_cons_zero, List.getD_cons_succ] at hdec ⊢
  have hle : i.size ≤ (operands ++ rest).length + 1 := by
    rw [hsize, List.length_append]
    omega
  rw [decode_cons op (operands ++ rest) (hdec.symm ▸ hle), hdec, hsize, List.drop_succ_cons, List.drop_left]

theorem hasBytes_of_encode {i : Instr} {bytes : List Byte} (hwf : i.wf = true) (h : encode i = bytes) :
    HasBytes i bytes := by
  subst h
  exact ⟨rfl, (length_encode i).symm, decode_encode_append i hwf⟩

theorem le16_eq (v : Word) : le16 v = [lowByte v, highByte v] := by
  rw [le16, lowByte_eq_ofNat, highByte_eq_ofNat]

/-- The bytes of LD r,r' (R201 to R203); the slot with (HL) on both sides is HALT (R123). -/
theorem hasBytes_mkLd (d o : Operand8) : HasBytes (mkLd d o) [opXyz 1 (operandField d) (operandField o)] := by
  cases d with
  | reg dst =>
    cases o with
    | reg src => cases dst <;> cases src <;> exact hasBytes_of_encode rfl rfl
    | indHl => cases dst <;> exact hasBytes_of_encode rfl rfl
  | indHl =>
    cases o with
    | reg src => cases src <;> exact hasBytes_of_encode rfl rfl
    | indHl => exact hasBytes_of_encode rfl rfl

theorem hasBytes_mkLdImm (d : Operand8) (n : Byte) : HasBytes (mkLdImm d n) [opXyz 0 (operandField d) 6, n] := by
  cases d with
  | reg r => cases r <;> exact hasBytes_of_encode rfl rfl
  | indHl => exact hasBytes_of_encode rfl rfl

theorem hasBytes_mkLdPairImm (p : Pair) (v : Word) :
    HasBytes (mkLdPairImm p v) (opXyz 0 (2 * pairField p) 1 :: le16 v) := by
  rw [le16_eq]
  cases p <;> exact hasBytes_of_encode rfl rfl

/-! ### What an instruction leaves that ends at the next one -/

section
variable {i : Instr} {s u : State} {len cyc : Nat}

theorem Underway.setHl (h : Underway i s u) (v : Word) : Underway i s (u.setHl v) := ⟨h.pc, h.count, h.latches⟩

theorem Underway.writeWord (i : Instr) (s : State) (x v : Word) : Underway i s (s.writeWord x v) :=
  ⟨rfl, rfl, fun _ => ⟨rfl, rfl⟩⟩

theorem runs_of_finish (h : exec i s = finish len cyc u) (hu : Underway i s u) : Runs i s u len cyc := by
  rw [Runs, h, finish, hu.pc, hu.count]

theorem runs_of_loadFrom {dst : Reg8} {addr : Word} (h : exec i s = loadFrom dst addr len cyc s) :
    Runs i s (s.setReg dst (s.readByte addr)) len cyc :=
  runs_of_finish h (.setReg i s dst _)

/-- What was stored shows in the two memories and the latch alone. -/
theorem stores_congr {t : State} {cells : List (Word × Byte)} (h : Stores s u cells) (hmain : t.main = u.main)
    (hboot : t.boot = u.boot) (hlatch : t.overlayActive = u.overlayActive) : Stores s t cells := by
  obtain ⟨hcells, hframe, huboot, hulatch, hread⟩ := h
  refine ⟨hmain ▸ hcells, hmain ▸ hframe, hboot.trans huboot, hlatch.trans hulatch, fun x hx hor => ?_⟩
  rw [State.readByte_congr hboot (by rw [hmain]) (.inl hlatch)]
  exact hread x hx (hlatch ▸ hor)

theorem storeRuns_of_finish {t : State} {cells : List (Word × Byte)} (h : exec i s = finish len cyc t)
    (hstores : Stores s t cells) (ht : Underway i s t)
    (hframe : { t with main := s.main, overlayActive := s.overlayActive } = u) : StoreRuns i s u cells len cyc := by
  subst hframe
  exact ⟨_, h, stores_congr hstores rfl rfl rfl, by rw [ht.pc, ht.count]⟩

theorem storeRuns_of_storeTo {addr : Word} {v : Byte} (h : exec i s = storeTo addr v len cyc s) :
    StoreRuns i s s [(addr, v)] len cyc :=
  storeRuns_of_finish h (stores_writeByte s addr v) (.writeByte i s addr v) rfl

/-- A store of A at HL that steps HL to `v` (R216, R217). -/
theorem storeRuns_of_store_setHl {v : Word} (h : exec i s = finish len cyc ((s.writeByte s.hl s.a).setHl v)) :
    StoreRuns i s (s.setHl v) [(s.hl, s.a)] len cyc :=
  storeRuns_of_finish h (stores_congr (stores_writeByte s s.hl s.a) rfl rfl rfl)
    ((Underway.writeByte i s s.hl s.a).setHl v) rfl

/-- A load of A from HL that steps HL to `v` (R218, R219). -/
theorem runs_of_load_setHl {v : Word} (h : exec i s = finish len cyc ((s.setReg .a (s.readByte s.hl)).setHl v)) :
    Runs i s ({ s with a := s.readByte s.hl }.setHl v) len cyc :=
  runs_of_finish h ((Underway.setReg i s .a _).setHl v)

end

/-! ### Loads -/

/-- Settles O27: every LD r,r' is `loadReg` on its two registers. -/
theorem loadRegisterFromRegister : Obligations.LoadRegisterFromRegister := by
  unfold Obligations.LoadRegisterFromRegister
  intro dst src s
  exact ⟨hasBytes_mkLd (.reg dst) (.reg src), runs_of_finish (exec_mkLd_reg dst src s) (.setReg _ s dst _)⟩

/-- Settles O28: each of the six is `loadFrom` at its address. -/
theorem loadByteFromMemory : Obligations.LoadByteFromMemory := by
  unfold Obligations.LoadByteFromMemory
  intro dst n addr s
  rw [le16_eq, ← highPage_eq_append, ← highPage_eq_append]
  exact ⟨hasBytes_mkLd (.reg dst) .indHl, runs_of_loadFrom (exec_mkLd_fromHl dst s),
    hasBytes_of_encode rfl rfl, runs_of_loadFrom (dst := .a) (addr := s.bc) rfl,
    hasBytes_of_encode rfl rfl, runs_of_loadFrom (dst := .a) (addr := s.de) rfl,
    hasBytes_of_encode rfl rfl, runs_of_loadFrom (dst := .a) (addr := addr) rfl,
    hasBytes_of_encode rfl rfl, runs_of_loadFrom (dst := .a) (addr := highPage n) rfl,
    hasBytes_of_encode rfl rfl, runs_of_loadFrom (dst := .a) (addr := highPage s.c) rfl⟩

/-- Settles O29: the immediate goes to the register or the pair, HL to SP. -/
theorem loadImmediate : Obligations.LoadImmediate := by
  unfold Obligations.LoadImmediate
  intro dst p n v s
  exact ⟨hasBytes_mkLdImm (.reg dst) n, runs_of_finish (exec_mkLdImm_reg dst n s) (.setReg _ s dst n),
    hasBytes_mkLdPairImm p v, runs_of_finish (exec_mkLdPairImm p v s) (.setPair _ s p v),
    hasBytes_of_encode rfl rfl, runs_of_finish rfl (.setPair _ s .sp s.hl)⟩

/-- Settles O30: the byte is read at the HL of the state before, from which the step of HL is computed too. -/
theorem loadThenStepHl : Obligations.LoadThenStepHl := by
  unfold Obligations.LoadThenStepHl
  intro s
  exact ⟨hasBytes_of_encode rfl rfl, runs_of_load_setHl rfl, hasBytes_of_encode rfl rfl, runs_of_load_setHl rfl⟩

/-! ### Stores -/

/-- Settles O31: each of the seven is `storeTo` at its address. -/
theorem storeByteToMemory : Obligations.StoreByteToMemory := by
  unfold Obligations.StoreByteToMemory
  intro src n addr s
  rw [le16_eq]
  exact ⟨hasBytes_mkLd .indHl (.reg src), storeRuns_of_storeTo (exec_mkLd_toHl src s),
    hasBytes_mkLdImm .indHl n, storeRuns_of_storeTo (exec_mkLdImm_toHl n s),
    hasBytes_of_encode rfl rfl, storeRuns_of_storeTo rfl,
    hasBytes_of_encode rfl rfl, storeRuns_of_storeTo rfl,
    hasBytes_of_encode rfl rfl, storeRuns_of_storeTo rfl,
    hasBytes_of_encode rfl rfl, storeRuns_of_storeTo rfl,
    hasBytes_of_encode rfl rfl, storeRuns_of_storeTo rfl⟩

/-- Settles O32: the store is at the HL of the state before; the step of HL touches no memory. -/
theorem storeThenStepHl : Obligations.StoreThenStepHl := by
  unfold Obligations.StoreThenStepHl
  intro s
  exact ⟨hasBytes_of_encode rfl rfl, storeRuns_of_store_setHl rfl, hasBytes_of_encode rfl rfl,
    storeRuns_of_store_setHl rfl⟩

/-- Settles O33: LD (a16),SP is one word store, which is two byte stores in a row. -/
theorem storeStackPointer : Obligations.StoreStackPointer := by
  unfold Obligations.StoreStackPointer
  intro addr s
  rw [le16_eq, ← lowByte_eq_ofNat, ← highByte_eq_ofNat]
  exact ⟨hasBytes_of_encode rfl rfl,
    storeRuns_of_finish rfl (stores_writeWord s addr s.sp) (.writeWord _ s addr s.sp) rfl⟩

end Sys2Proof.Machine
end

section
/-! The statements of 41_stack.md: what PUSH and POP do (R250 to R254), and POP after PUSH (R255). -/

namespace Sys2Proof.Machine

open Sys2Proof.Stated

/-! ### PUSH -/

theorem stores_push16 (s : State) (v : Word) : Stores s (s.push16 v) (pushed s v) := by
  rw [pushed, ← highByte_eq_ofNat, ← lowByte_eq_ofNat, show s.sp - 2 = s.sp - 1 - 1 by bv_omega]
  have hfirst : Stores s { s.writeByte (s.sp - 1) (highByte v) with sp := s.sp - 1 - 1 } [(s.sp - 1, highByte v)] :=
    stores_congr (stores_writeByte s (s.sp - 1) (highByte v)) rfl rfl rfl
  have hne : s.sp - 1 ≠ s.sp - 1 - 1 := by bv_omega
  exact stores_snoc hfirst (s.sp - 1 - 1) (lowByte v) (by simpa using hne)

theorem State.push16_frame (s : State) (v : Word) :
    { s.push16 v with main := s.main, overlayActive := s.overlayActive } = { s with sp := s.sp - 2 } := by
  rw [show s.sp - 2 = s.sp - 1 - 1 by bv_omega]
  rfl

theorem hasBytes_mkPush (q : StackPair) : HasBytes (mkPush q) [opXyz 3 (2 * stackPairField q) 5] := by
  cases q <;> exact hasBytes_of_encode rfl rfl

theorem storeRuns_mkPush (q : StackPair) (s : State) :
    StoreRuns (mkPush q) s { s with sp := s.sp - 2 } (pushed s (s.stackPair q)) 1 16 :=
  storeRuns_of_finish (exec_mkPush q s) (stores_push16 s _) (.push16 _ s _) (s.push16_frame _)

/-- Settles O34: PUSH is `push16`, two byte stores in a row, each after a step of SP. -/
theorem pushStoresPair : Obligations.PushStoresPair := by
  unfold Obligations.PushStoresPair
  exact fun q s => ⟨hasBytes_mkPush q, storeRuns_mkPush q s⟩

/-! ### POP -/

theorem hasBytes_mkPop (q : StackPair) : HasBytes (mkPop q) [opXyz 3 (2 * stackPairField q) 1] := by
  cases q <;> exact hasBytes_of_encode rfl rfl

theorem runs_mkPop (q : StackPair) (s : State) :
    Runs (mkPop q) s ({ s with sp := s.sp + 2 }.setStackPair q (poppedValue s)) 1 12 :=
  runs_of_finish (exec_mkPop q s) (.popped_setStackPair _ s q _)

/-- AF takes A from the high byte, and F from the low byte without its low four bits (R34). -/
theorem State.setAf_wordOf (s : State) (hi lo : Byte) :
    s.setAf (wordOf hi lo) = { s with a := hi, f := lo &&& 0xF0 } := by
  rw [State.setAf, highByte_wordOf, lowByte_wordOf]

/-- Settles O35: POP writes the two bytes at SP to the pair; AF splits them again into A and the masked F. -/
theorem popLoadsPair : Obligations.PopLoadsPair := by
  unfold Obligations.PopLoadsPair
  intro q s
  have haf := State.setAf_wordOf { s with sp := s.sp + 2 } (s.readByte (s.sp + 1)) (s.readByte s.sp)
  exact ⟨hasBytes_mkPop q, runs_mkPop q s, haf ▸ runs_mkPop .af s⟩

/-! ### POP after PUSH -/

/-- A stored byte is read back, but where the overlay serves the read (R73). -/
theorem readByte_of_stores {s t : State} {cells : List (Word × Byte)} (h : Stores s t cells) {x : Word} {v : Byte}
    (hmem : (x, v) ∈ cells) :
    t.readByte x = if t.overlayActive = true ∧ x.toNat ≤ 0x00FF then Memory.read s.boot x.toNat else v := by
  obtain ⟨hcells, -, hboot, -, -⟩ := h
  rw [State.readByte_eq, hboot, hcells (x, v) hmem]

/-- A pair reads back what was written to it, AF without the low four bits of F (R33, R34). -/
theorem State.stackPair_setStackPair (s : State) (q : StackPair) (v : Word) :
    (s.setStackPair q v).stackPair q = v &&& if q = .af then 0xFFF0#16 else 0xFFFF#16 := by
  have hall : v &&& 0xFFFF#16 = v := BitVec.and_allOnes
  cases q with
  | af => exact s.af_setAf v
  | bc | de | hl => exact (wordOf_split v).trans hall.symm

theorem State.stackPair_next (s : State) (q : StackPair) (pc : Word) (count : BitVec 64) :
    { s with pc := pc, cycleCount := count }.stackPair q = s.stackPair q := by
  cases q <;> rfl

/-- What a pop finds after a push of `v`: each byte of `v` that the overlay does not hide, and the byte of `boot` for
each that it hides. -/
theorem poppedValue_of_stores_pushed {s t : State} {v : Word} (h : Stores s t (pushed s v)) (hsp : t.sp = s.sp - 2) :
    poppedValue t =
      (if t.overlayActive = true ∧ (s.sp - 1).toNat ≤ 0x00FF then Memory.read s.boot (s.sp - 1).toNat
        else BitVec.ofNat 8 (v.toNat / 256)) ++
      (if t.overlayActive = true ∧ (s.sp - 2).toNat ≤ 0x00FF then Memory.read s.boot (s.sp - 2).toNat
        else BitVec.ofNat 8 v.toNat) := by
  rw [poppedValue, hsp, show s.sp - 2 + 1 = s.sp - 1 by bv_omega, readByte_of_stores h List.mem_cons_self,
    readByte_of_stores h (List.mem_cons_of_mem _ List.mem_cons_self)]

/-- With both stack bytes clear of an active overlay, a pop finds the pushed word (R255). -/
theorem poppedValue_eq_of_stores_pushed {s t : State} {v : Word} (h : Stores s t (pushed s v)) (hsp : t.sp = s.sp - 2)
    (hclear : t.overlayActive = false ∨ (0x00FF < (s.sp - 1).toNat ∧ 0x00FF < (s.sp - 2).toNat)) :
    poppedValue t = v := by
  have hjoin : BitVec.ofNat 8 (v.toNat / 256) ++ BitVec.ofNat 8 v.toNat = v := by
    rw [← highByte_eq_ofNat, ← lowByte_eq_ofNat]
    exact wordOf_split v
  rw [poppedValue_of_stores_pushed h hsp]
  obtain hoff | ⟨hhigh, hlow⟩ := hclear
  · simpa only [hoff, Bool.false_eq_true, false_and, if_false] using hjoin
  · simpa only [Nat.not_le.mpr hhigh, Nat.not_le.mpr hlow, and_false, if_false] using hjoin

/-- Settles O7: PUSH stores the pair and POP loads what it finds at the same two addresses; the pair reads back masked
by R34. -/
theorem pushThenPopRestores : Obligations.PushThenPopRestores := by
  unfold Obligations.PushThenPopRestores
  intro q s
  obtain ⟨t, ht, hstores, hframe⟩ := storeRuns_mkPush q s
  have hsp : t.sp = s.sp - 2 := congrArg State.sp hframe
  have hpop := runs_mkPop q t
  refine ⟨t, _, ht, hpop, by simp [hsp], fun hclear => ?_, ?_⟩
  · rw [State.stackPair_next, State.stackPair_setStackPair, poppedValue_eq_of_stores_pushed hstores hsp hclear]
    split
    · rfl
    · exact BitVec.and_allOnes
  · rw [State.stackPair_next, State.stackPair_setStackPair, poppedValue_of_stores_pushed hstores hsp]

end Sys2Proof.Machine
end

section
/-! The statements of 42_inc_dec.md: INC and DEC of a register, of the byte at HL (R300 to R303) and of a pair (R304,
R305). -/

namespace Sys2Proof.Machine

open Sys2Proof.Stated

/-! ### Encoding -/

theorem hasBytes_mkInc (o : Operand8) : HasBytes (mkInc o) [opXyz 0 (operandField o) 4] := by
  cases o with
  | reg r => cases r <;> exact hasBytes_of_encode rfl rfl
  | indHl => exact hasBytes_of_encode rfl rfl

theorem hasBytes_mkDec (o : Operand8) : HasBytes (mkDec o) [opXyz 0 (operandField o) 5] := by
  cases o with
  | reg r => cases r <;> exact hasBytes_of_encode rfl rfl
  | indHl => exact hasBytes_of_encode rfl rfl

theorem hasBytes_mkIncPair (p : Pair) : HasBytes (mkIncPair p) [opXyz 0 (2 * pairField p) 3] := by
  cases p <;> exact hasBytes_of_encode rfl rfl

theorem hasBytes_mkDecPair (p : Pair) : HasBytes (mkDecPair p) [opXyz 0 (2 * pairField p + 1) 3] := by
  cases p <;> exact hasBytes_of_encode rfl rfl

/-! ### The two routines, their flags in arithmetic -/

theorem incHalf_eq : ∀ v : Byte, incHalf v = decide (v.toNat % 16 = 15) := by
  decide

theorem decHalf_eq : ∀ v : Byte, decHalf v = decide (v.toNat % 16 = 0) := by
  decide

/-- Writing the operand leaves F, so that Cy is the old one (R300, R301). -/
theorem increment_eq (o : Operand8) (cyc : Nat) (s : State) :
    increment o cyc s = finish 1 cyc { s.setOperand o (s.operand o + 1) with
      f := putZnh s.f (decide (s.operand o + 1 = 0)) false (decide ((s.operand o).toNat % 16 = 15)) } := by
  rw [← incHalf_eq, ← State.setOperand_f s o (s.operand o + 1)]
  rfl

/-- As `increment_eq`, for DEC (R302, R303). -/
theorem decrement_eq (o : Operand8) (cyc : Nat) (s : State) :
    decrement o cyc s = finish 1 cyc { s.setOperand o (s.operand o - 1) with
      f := putZnh s.f (decide (s.operand o - 1 = 0)) true (decide ((s.operand o).toNat % 16 = 0)) } := by
  rw [← decHalf_eq, ← State.setOperand_f s o (s.operand o - 1)]
  rfl

/-! ### An operand and F written -/

section
variable {i : Instr} {s : State} {v f : Byte} {len cyc : Nat}

theorem runs_of_setReg_setF {r : Reg8} (h : exec i s = finish len cyc { s.setReg r v with f := f }) :
    Runs i s { s.setReg r v with f := f } len cyc :=
  runs_of_finish h ((Underway.setReg i s r v).setF f)

theorem storeRuns_of_writeByte_setF {x : Word} (h : exec i s = finish len cyc { s.writeByte x v with f := f }) :
    StoreRuns i s { s with f := f } [(x, v)] len cyc :=
  storeRuns_of_finish h (stores_congr (stores_writeByte s x v) rfl rfl rfl) ((Underway.writeByte i s x v).setF f) rfl

end

/-! ### The obligations -/

/-- Settles O36: INC and DEC on a register operand. -/
theorem incDecRegister : Obligations.IncDecRegister := by
  unfold Obligations.IncDecRegister
  intro r s
  have hinc := (exec_mkInc (.reg r) s).trans (increment_eq _ _ s)
  have hdec := (exec_mkDec (.reg r) s).trans (decrement_eq _ _ s)
  exact ⟨hasBytes_mkInc (.reg r), runs_of_setReg_setF hinc, hasBytes_mkDec (.reg r), runs_of_setReg_setF hdec⟩

/-- Settles O37: INC and DEC on the operand (HL), which is read and written at the HL of the state before. -/
theorem incDecMemory : Obligations.IncDecMemory := by
  unfold Obligations.IncDecMemory
  intro s
  have hinc := (exec_mkInc .indHl s).trans (increment_eq _ _ s)
  have hdec := (exec_mkDec .indHl s).trans (decrement_eq _ _ s)
  exact ⟨hasBytes_mkInc .indHl, storeRuns_of_writeByte_setF hinc, hasBytes_mkDec .indHl,
    storeRuns_of_writeByte_setF hdec⟩

/-- Settles O38: the pair is written and nothing else is. -/
theorem incDecPair : Obligations.IncDecPair := by
  unfold Obligations.IncDecPair
  intro p s
  exact ⟨hasBytes_mkIncPair p, runs_of_finish (exec_mkIncPair p s) (.setPair _ s p _),
    hasBytes_mkDecPair p, runs_of_finish (exec_mkDecPair p s) (.setPair _ s p _)⟩

end Sys2Proof.Machine
end

section
/-! The statements of 43_alu.md: Add8 and Sub8 in arithmetic (R351, R352, R365), the accumulator operations in every
operand form (R350, R353 to R360), and the 16-bit forms (R361 to R363). -/

namespace Sys2Proof.Machine

open Sys2Proof.Stated

/-! ### Carry and borrow -/

theorem carryOut_eq_carry {w : Nat} (x y : BitVec w) (cin : Bool) (k : Nat) :
    carryOut x.toNat y.toNat cin k = BitVec.carry k x y cin := rfl

/-- A borrow is a missing carry of the addition of the complement (R14). -/
theorem borrowOut_eq_not_carryOut {w k : Nat} (hk : k ≤ w) (x y : BitVec w) (cin : Bool) :
    borrowOut x.toNat y.toNat cin k = !carryOut x.toNat (~~~y).toNat (!cin) k := by
  have hnot : (~~~y).toNat % 2 ^ k = 2 ^ k - 1 - y.toNat % 2 ^ k := by
    simpa using congrArg BitVec.toNat (BitVec.setWidth_not (x := y) hk)
  have hlt : y.toNat % 2 ^ k < 2 ^ k := Nat.mod_lt _ (Nat.two_pow_pos k)
  rw [carryOut, hnot, borrowOut, ← decide_not, decide_eq_decide]
  cases cin <;> simp only [Bool.not_false, Bool.not_true, Bool.toNat_false, Bool.toNat_true] <;> omega

/-- The carry out of the top bit compares the whole sum. -/
theorem carryOut_width {w : Nat} (x y : BitVec w) (cin : Bool) :
    carryOut x.toNat y.toNat cin w = decide (2 ^ w ≤ x.toNat + y.toNat + cin.toNat) := by
  rw [carryOut, Nat.mod_eq_of_lt x.isLt, Nat.mod_eq_of_lt y.isLt]

theorem borrowOut_width {w : Nat} (x y : BitVec w) (cin : Bool) :
    borrowOut x.toNat y.toNat cin w = decide (x.toNat < y.toNat + cin.toNat) := by
  rw [borrowOut, Nat.mod_eq_of_lt x.isLt, Nat.mod_eq_of_lt y.isLt]

/-! ### Add8 and Sub8 -/

/-- The rule of R351, exact sums on the right. -/
theorem add8_eq (a b : Byte) (cin : Bool) :
    add8 a b cin = ⟨a + b + BitVec.ofNat 8 cin.toNat, decide (0xF < a.toNat % 16 + b.toNat % 16 + cin.toNat),
      decide (0xFF < a.toNat + b.toNat + cin.toNat)⟩ := by
  have hres : BitVec.ofNat 8 (a.toNat + b.toNat + cin.toNat) = a + b + BitVec.ofNat 8 cin.toNat := by
    simp [BitVec.ofNat_add]
  rw [add8, carryOut_width, hres]
  rfl

/-- The rule of R352, with the two comparisons it names. -/
theorem sub8_eq (a b : Byte) (cin : Bool) :
    sub8 a b cin = ⟨a - b - BitVec.ofNat 8 cin.toNat, decide (a.toNat % 16 < b.toNat % 16 + cin.toNat),
      decide (a.toNat < b.toNat + cin.toNat)⟩ := by
  have hres : BitVec.ofInt 8 ((a.toNat : Int) - b.toNat - cin.toNat) = a - b - BitVec.ofNat 8 cin.toNat := by
    apply BitVec.eq_of_toNat_eq
    have hc := cin.toNat_lt
    simp only [BitVec.toNat_ofInt, BitVec.toNat_sub, BitVec.toNat_ofNat]
    omega
  rw [sub8, borrowOut_width, hres]
  rfl

/-- A bit of a sum differs from the operands' bits by the carry into it. -/
theorem getLsbD_xor_add {w k : Nat} (hk : k < w) (x y : BitVec w) (cin : Bool) :
    (x ^^^ y ^^^ (x + y + BitVec.ofNat w cin.toNat)).getLsbD k = carryOut x.toNat y.toNat cin k := by
  rw [← BitVec.toNat_ofBool, BitVec.ofNat_toNat, BitVec.getLsbD_xor, BitVec.getLsbD_xor,
    BitVec.getLsbD_add_add_bool hk, carryOut_eq_carry]
  cases x.getLsbD k <;> cases y.getLsbD k <;> simp

theorem sub_sub_eq_add_not {w : Nat} (x y : BitVec w) (cin : Bool) :
    x - y - BitVec.ofNat w cin.toNat = x + ~~~y + BitVec.ofNat w (!cin).toNat := by
  rw [BitVec.not_eq_neg_add, BitVec.sub_eq_add_neg x y]
  cases cin with
  | false => exact (by ring : x + -y - 0 = x + (-y - 1) + 1)
  | true => exact (by ring : x + -y - 1 = x + (-y - 1) + 0)

/-- A bit of a difference differs from the operands' bits by the borrow into it. -/
theorem getLsbD_xor_sub {w k : Nat} (hk : k < w) (x y : BitVec w) (cin : Bool) :
    (x ^^^ y ^^^ (x - y - BitVec.ofNat w cin.toNat)).getLsbD k = borrowOut x.toNat y.toNat cin k := by
  rw [borrowOut_eq_not_carryOut hk.le, sub_sub_eq_add_not, ← getLsbD_xor_add hk]
  simp [hk]

/-- Settles O26: the half-carries by `getLsbD_xor_add` and `getLsbD_xor_sub`, the rest in arithmetic. -/
theorem arithmeticClosedForms : Obligations.ArithmeticClosedForms := by
  unfold Obligations.ArithmeticClosedForms
  intro a b cin
  have hc := cin.toNat_lt
  refine ⟨BitVec.toNat_ofNat _ 8, ?_, ?_, ?_, ?_, ?_⟩
  · rw [add8_eq, getLsbD_xor_add (by decide)]
    rfl
  · rw [add8_eq, decide_eq_decide]
    omega
  · rw [sub8, BitVec.toNat_ofInt]
    omega
  · rw [sub8_eq, getLsbD_xor_sub (by decide)]
    rfl
  · rw [sub8_eq, decide_eq_decide]
    omega

/-! ### The accumulator operations -/

theorem hasBytes_mkAlu (op : AluOp) (src : AluSrc) : HasBytes (mkAlu op src) (aluBytes op src) := by
  cases src with
  | reg r => cases op <;> cases r <;> exact hasBytes_of_encode rfl rfl
  | indHl => cases op <;> exact hasBytes_of_encode rfl rfl
  | imm n => cases op <;> exact hasBytes_of_encode rfl rfl

/-- Length and cost are those of the operand form, whatever the operation (R350). -/
theorem runs_mkAlu (op : AluOp) (src : AluSrc) (s : State) :
    Runs (mkAlu op src) s (s.accumulated op (s.aluSource src)) (aluBytes op src).length (aluCost src) := by
  have h := runs_of_finish (exec_mkAlu op src s) (.accumulated _ s op _)
  cases src <;> exact h

theorem State.setArith_add8 (s : State) (v : Byte) (cin : Bool) :
    s.setArith false (add8 s.a v cin) = added s v cin := by
  rw [add8_eq]
  rfl

theorem State.setArith_sub8 (s : State) (v : Byte) (cin : Bool) :
    s.setArith true (sub8 s.a v cin) = subtracted s v cin := by
  rw [sub8_eq]
  rfl

/-- CP writes what SUB writes, but for A (R360). -/
theorem State.accumulated_cp (s : State) (v : Byte) :
    s.accumulated .cp v = { subtracted s v false with a := s.a } := by
  rw [← State.setArith_sub8]
  rfl

/-- Settles O39: each of the two is Add8 on A and the operand, with its carry-in. -/
theorem addWithAllOperands : Obligations.AddWithAllOperands := by
  unfold Obligations.AddWithAllOperands
  intro src s
  rw [← State.setArith_add8, ← State.setArith_add8]
  exact ⟨hasBytes_mkAlu .add src, runs_mkAlu .add src s, hasBytes_mkAlu .adc src, runs_mkAlu .adc src s⟩

/-- Settles O40: each of the two is Sub8 on A and the operand, with its borrow-in. -/
theorem subtractWithAllOperands : Obligations.SubtractWithAllOperands := by
  unfold Obligations.SubtractWithAllOperands
  intro src s
  rw [← State.setArith_sub8, ← State.setArith_sub8]
  exact ⟨hasBytes_mkAlu .sub src, runs_mkAlu .sub src s, hasBytes_mkAlu .sbc src, runs_mkAlu .sbc src s⟩

/-- Settles O41: the three differ in the bitwise operation and in Hf. -/
theorem logicWithAllOperands : Obligations.LogicWithAllOperands := by
  unfold Obligations.LogicWithAllOperands
  intro src s
  exact ⟨hasBytes_mkAlu .and src, runs_mkAlu .and src s, hasBytes_mkAlu .xor src, runs_mkAlu .xor src s,
    hasBytes_mkAlu .or src, runs_mkAlu .or src s⟩

/-- Settles O42: CP is SUB with A put back. -/
theorem compareLeavesA : Obligations.CompareLeavesA := by
  unfold Obligations.CompareLeavesA
  intro src s
  rw [← State.accumulated_cp]
  exact ⟨hasBytes_mkAlu .cp src, runs_mkAlu .cp src s⟩

/-! ### 16-bit arithmetic -/

theorem hasBytes_mkAddHl (p : Pair) : HasBytes (mkAddHl p) [opXyz 0 (2 * pairField p + 1) 1] := by
  cases p <;> exact hasBytes_of_encode rfl rfl

/-- The half-carry is the carry out of bit 11, the carry that of the whole sum (R361). -/
theorem addHl_eq (p : Pair) (s : State) :
    addHl p s = finish 1 8 { s.setHl (s.hl + s.pair p) with
      f := putNhc s.f false (decide (0x0FFF < s.hl.toNat % 4096 + (s.pair p).toNat % 4096))
        (decide (0xFFFF < s.hl.toNat + (s.pair p).toNat)) } := by
  rw [addHl, carryOut_width]
  rfl

/-- Settles O43: HL is written and F but for Z; the carries are those of the pair's sum. -/
theorem addToHl : Obligations.AddToHl := by
  unfold Obligations.AddToHl
  intro p s
  exact ⟨hasBytes_mkAddHl p,
    runs_of_finish ((exec_mkAddHl p s).trans (addHl_eq p s)) (((Underway.refl _ s).setHl _).setF _)⟩

/-- The flags of SP + e8 in arithmetic on SP (R362, R363). -/
theorem State.setSpFlags_eq (s : State) (e : Byte) :
    s.setSpFlags e = { s with
      f := putZnhc s.f false false (decide (0xF < s.sp.toNat % 16 + e.toNat % 16))
        (decide (0xFF < s.sp.toNat % 256 + e.toNat)) } := by
  have hlow : (lowByte s.sp).toNat = s.sp.toNat % 256 := by rw [lowByte_eq_ofNat, BitVec.toNat_ofNat]
  have hmod : s.sp.toNat % 256 % 16 = s.sp.toNat % 16 := Nat.mod_mod_of_dvd _ (by decide)
  rw [State.setSpFlags, carryOut_width, carryOut, hlow]
  simp [State.setZnhc, hmod, Nat.lt_iff_add_one_le]

/-- Settles O44: both write the same flags; the sum goes to SP or to HL. -/
theorem stackPointerPlusOffset : Obligations.StackPointerPlusOffset := by
  unfold Obligations.StackPointerPlusOffset
  intro e s
  have hadd : exec (.addSpE8 e) s = finish 2 16 { s.setSpFlags e with sp := s.sp + e.signExtend 16 } := rfl
  have hload : exec (.ldHlSpE8 e) s = finish 2 12 ((s.setSpFlags e).setHl (s.sp + e.signExtend 16)) := rfl
  rw [State.setSpFlags_eq] at hadd hload
  exact ⟨hasBytes_of_encode rfl rfl, runs_of_finish hadd ⟨rfl, rfl, fun _ => ⟨rfl, rfl⟩⟩,
    hasBytes_of_encode rfl rfl, runs_of_finish hload (((Underway.refl _ s).setF _).setHl _)⟩

end Sys2Proof.Machine
end

section
/-! The statements of 44_rotate_shift.md: the accumulator rotates (R400 to R403), and the prefixed rotates, shifts and
SWAP (R404 to R412). -/

namespace Sys2Proof.Machine

open Sys2Proof.Stated

/-! ### The bit shifted out -/

theorem getLsbD_seven_eq_decide (v : Byte) : v.getLsbD 7 = decide (128 ≤ v.toNat) :=
  (BitVec.msb_eq_getLsbD_last v).symm.trans (BitVec.msb_eq_decide v)

theorem getLsbD_zero_eq_decide (v : Byte) : v.getLsbD 0 = decide (v.toNat % 2 = 1) :=
  Nat.testBit_zero v.toNat

theorem rotate_carry (op : RotOp) (v : Byte) (cin : Bool) : (rotate op v cin).2 = rotatedCarry op v.toNat := by
  cases op with
  | rlc | rl | sla => exact getLsbD_seven_eq_decide v
  | rrc | rr | sra | srl => exact getLsbD_zero_eq_decide v
  | swap => rfl

/-- The top bit as a number. -/
theorem toNat_getLsbD_seven (v : Byte) : (v.getLsbD 7).toNat = v.toNat / 128 := by
  have hdiv : v.toNat / 2 ^ 7 % 2 = v.toNat / 128 := by omega
  exact (Nat.toNat_testBit v.toNat 7).trans hdiv

/-- The bottom bit as a number. -/
theorem toNat_getLsbD_zero (v : Byte) : (v.getLsbD 0).toNat = v.toNat % 2 :=
  (Nat.toNat_testBit v.toNat 0).trans (by rw [pow_zero, Nat.div_one])

/-! ### The byte shifted -/

/-- OR into the bits that a left shift leaves clear is addition. -/
theorem shiftLeft_or_eq_ofNat {w k : Nat} (x y : BitVec w) (hy : y.toNat < 2 ^ k) :
    x <<< k ||| y = BitVec.ofNat w (2 ^ k * x.toNat + y.toNat) := by
  apply BitVec.eq_of_toNat_eq
  rw [BitVec.toNat_or, BitVec.toNat_shiftLeft, BitVec.toNat_ofNat, Nat.two_pow_add_eq_or_of_lt hy,
    Nat.or_mod_two_pow, Nat.mod_eq_of_lt y.isLt, Nat.shiftLeft_eq, Nat.mul_comm]

theorem toNat_bitByte (b : Bool) : (bitByte b).toNat = b.toNat := by
  cases b <;> rfl

/-- A shift to the left with the bit `b` coming in at the bottom (R405, R407, R409). -/
theorem shiftLeft_or_bitByte (v : Byte) (b : Bool) :
    (v <<< 1) ||| bitByte b = BitVec.ofNat 8 (2 * v.toNat % 256 + b.toNat) := by
  have hbit : (bitByte b).toNat < 2 ^ 1 := toNat_bitByte b ▸ b.toNat_lt
  apply BitVec.eq_of_toNat_eq
  simp [shiftLeft_or_eq_ofNat v (bitByte b) hbit, toNat_bitByte]

/-- A shift to the right with the bit `b` coming in at the top (R406, R408, R410, R412). -/
theorem shiftRight_or_bitByte (v : Byte) (b : Bool) :
    (v >>> 1) ||| (bitByte b <<< 7) = BitVec.ofNat 8 (v.toNat / 2 + 128 * b.toNat) := by
  have hshift : (v >>> 1).toNat = v.toNat / 2 := BitVec.toNat_ushiftRight v 1
  have htop : (v >>> 1).toNat < 2 ^ 7 := by omega
  rw [BitVec.or_comm, shiftLeft_or_eq_ofNat (bitByte b) (v >>> 1) htop, toNat_bitByte, hshift, Nat.add_comm]
  rfl

/-- SRA puts back the top bit (R410). -/
theorem and_0x80_eq (v : Byte) : v &&& (0x80 : Byte) = bitByte (v.getLsbD 7) <<< 7 := by
  revert v
  decide

/-- The two nibbles in the other order (R411). -/
theorem swapNibbles_eq (v : Byte) :
    ((v &&& 0x0F) <<< 4) ||| (v >>> 4) = BitVec.ofNat 8 (16 * (v.toNat % 16) + v.toNat / 16) := by
  have hlow : (v &&& 0x0F).toNat = v.toNat % 16 := Nat.and_two_pow_sub_one_eq_mod v.toNat 4
  have hhigh : (v >>> 4).toNat = v.toNat / 16 :=
    (BitVec.toNat_ushiftRight v 4).trans (Nat.shiftRight_eq_div_pow v.toNat 4)
  have hnibble : (v >>> 4).toNat < 2 ^ 4 := by omega
  rw [shiftLeft_or_eq_ofNat (v &&& 0x0F) (v >>> 4) hnibble, hlow, hhigh]
  rfl

theorem rotate_value (op : RotOp) (v : Byte) (cin : Bool) : (rotate op v cin).1 = rotatedValue op v.toNat cin := by
  cases op with
  | rlc =>
    rw [rotatedValue, ← toNat_getLsbD_seven]
    exact shiftLeft_or_bitByte v (v.getLsbD 7)
  | rrc =>
    rw [rotatedValue, ← toNat_getLsbD_zero]
    exact shiftRight_or_bitByte v (v.getLsbD 0)
  | rl => exact shiftLeft_or_bitByte v cin
  | rr => exact shiftRight_or_bitByte v cin
  | sla => exact BitVec.or_zero.symm.trans (shiftLeft_or_bitByte v false)
  | sra =>
    rw [rotate, and_0x80_eq, rotatedValue, ← toNat_getLsbD_seven]
    exact shiftRight_or_bitByte v (v.getLsbD 7)
  | swap => exact swapNibbles_eq v
  | srl => exact BitVec.or_zero.symm.trans (shiftRight_or_bitByte v false)

/-- The rules of R405 to R412 in arithmetic. -/
theorem rotate_eq (op : RotOp) (v : Byte) (cin : Bool) :
    rotate op v cin = (rotatedValue op v.toNat cin, rotatedCarry op v.toNat) :=
  Prod.ext (rotate_value op v cin) (rotate_carry op v cin)

/-! ### The accumulator rotates -/

/-- A and F are written, and Z is cleared whatever the result (R400 to R403). -/
theorem runs_of_rotateA {i : Instr} {op : RotOp} {s : State} (h : exec i s = rotateA op s) :
    Runs i s { s with
      a := rotatedValue op s.a.toNat (getFlag s.f .c)
      f := putZnhc s.f false false false (rotatedCarry op s.a.toNat) } 1 4 := by
  simp only [rotateA, rotate_eq] at h
  exact runs_of_setReg_setF (r := .a) h

/-- Settles O45: each of the four is `rotateA` with its operation. -/
theorem accumulatorRotates : Obligations.AccumulatorRotates := by
  unfold Obligations.AccumulatorRotates
  intro s
  exact ⟨hasBytes_of_encode rfl rfl, runs_of_rotateA rfl, hasBytes_of_encode rfl rfl, runs_of_rotateA rfl,
    hasBytes_of_encode rfl rfl, runs_of_rotateA rfl, hasBytes_of_encode rfl rfl, runs_of_rotateA rfl⟩

/-! ### The prefixed operations -/

theorem hasBytes_mkRot (op : RotOp) (o : Operand8) :
    HasBytes (mkRot op o) [0xCB, opXyz 0 (rotField op) (operandField o)] := by
  cases o with
  | reg r => cases op <;> cases r <;> exact hasBytes_of_encode rfl rfl
  | indHl => cases op <;> exact hasBytes_of_encode rfl rfl

/-- The result goes back to the operand, and all of F's flags are written (R404 to R412). -/
theorem rotateOperand_eq (op : RotOp) (o : Operand8) (s : State) :
    rotateOperand op o s = finish 2 (rmwCycles o)
      { s.setOperand o (rotatedValue op (s.operand o).toNat (getFlag s.f .c)) with
        f := putZnhc s.f (decide (rotatedValue op (s.operand o).toNat (getFlag s.f .c) = 0)) false false
          (rotatedCarry op (s.operand o).toNat) } := by
  rw [rotateOperand, rotate_eq, State.setZnhc, State.setOperand_f]
  rfl

/-- Settles O46: every form is `rotateOperand`, on a register or on the byte at the HL of the state before. -/
theorem prefixedRotatesAndShifts : Obligations.PrefixedRotatesAndShifts := by
  unfold Obligations.PrefixedRotatesAndShifts
  intro op r s
  have hreg := (exec_mkRot op (.reg r) s).trans (rotateOperand_eq op (.reg r) s)
  have hmem := (exec_mkRot op .indHl s).trans (rotateOperand_eq op .indHl s)
  exact ⟨hasBytes_mkRot op (.reg r), runs_of_setReg_setF hreg, hasBytes_mkRot op .indHl,
    storeRuns_of_writeByte_setF hmem⟩

end Sys2Proof.Machine
end

section
/-! The statements of 45_bit.md: BIT (R450), RES (R451) and SET (R452), on a register and on the byte at HL. -/

namespace Sys2Proof.Machine

open Sys2Proof.Stated

/-! ### Encoding -/

theorem hasBytes_mkBit (b : Fin 8) (o : Operand8) : HasBytes (mkBit b o) [0xCB, opXyz 1 b.val (operandField o)] := by
  cases o with
  | reg r => fin_cases b <;> cases r <;> exact hasBytes_of_encode rfl rfl
  | indHl => fin_cases b <;> exact hasBytes_of_encode rfl rfl

theorem hasBytes_mkRes (b : Fin 8) (o : Operand8) : HasBytes (mkRes b o) [0xCB, opXyz 2 b.val (operandField o)] := by
  cases o with
  | reg r => fin_cases b <;> cases r <;> exact hasBytes_of_encode rfl rfl
  | indHl => fin_cases b <;> exact hasBytes_of_encode rfl rfl

theorem hasBytes_mkSet (b : Fin 8) (o : Operand8) : HasBytes (mkSet b o) [0xCB, opXyz 3 b.val (operandField o)] := by
  cases o with
  | reg r => fin_cases b <;> cases r <;> exact hasBytes_of_encode rfl rfl
  | indHl => fin_cases b <;> exact hasBytes_of_encode rfl rfl

/-! ### The bit tested, cleared, set -/

/-- The mask `1 << b` of R451 and R452. -/
theorem getLsbD_bitMask (b : Fin 8) (j : Nat) : ((1 : Byte) <<< b.val).getLsbD j = decide (j = b.val) :=
  (BitVec.getLsbD_twoPow b.val j).trans (by simp [eq_comm])

theorem isWithBit_resBit (b : Fin 8) (v : Byte) : IsWithBit v (resBit b v) b false := by
  intro j hj
  rw [resBit, BitVec.getLsbD_and, BitVec.getLsbD_not, getLsbD_bitMask]
  by_cases hjb : j = b.val <;> simp [hjb, hj]

theorem isWithBit_setBit (b : Fin 8) (v : Byte) : IsWithBit v (setBit b v) b true := by
  intro j _
  rw [setBit, BitVec.getLsbD_or, getLsbD_bitMask]
  by_cases hjb : j = b.val <;> simp [hjb]

/-- `testBit` with the flag Z and the cost as R450 gives them. -/
theorem testBit_eq (b : Fin 8) (o : Operand8) (s : State) :
    testBit b o s = finish 2 (bitCycles o)
      { s with f := putZnh s.f (decide ((s.operand o).getLsbD b.val = false)) false true } := by
  rw [Bool.decide_eq_false]
  rfl

/-! ### The obligations -/

/-- Settles O47: BIT is `testBit`, which writes F alone. -/
theorem bitTestWritesNoByte : Obligations.BitTestWritesNoByte := by
  unfold Obligations.BitTestWritesNoByte
  intro b o s
  have hruns := runs_of_finish ((exec_mkBit b o s).trans (testBit_eq b o s)) ((Underway.refl _ s).setF _)
  refine ⟨hasBytes_mkBit b o, ?_⟩
  cases o <;> exact hruns

/-- Settles O48: RES writes `resBit` of the operand back to it, SET `setBit`, and neither writes F. -/
theorem bitClearAndSet : Obligations.BitClearAndSet := by
  unfold Obligations.BitClearAndSet
  intro b r s
  exact ⟨⟨_, isWithBit_resBit b _, runs_of_finish (exec_mkRes b (.reg r) s) (.setReg _ s r _)⟩,
    ⟨_, isWithBit_setBit b _, runs_of_finish (exec_mkSet b (.reg r) s) (.setReg _ s r _)⟩,
    ⟨_, isWithBit_resBit b _, storeRuns_of_storeTo (exec_mkRes b .indHl s)⟩,
    ⟨_, isWithBit_setBit b _, storeRuns_of_storeTo (exec_mkSet b .indHl s)⟩,
    hasBytes_mkRes b (.reg r), hasBytes_mkSet b (.reg r), hasBytes_mkRes b .indHl, hasBytes_mkSet b .indHl⟩

end Sys2Proof.Machine
end

section
/-! The statements of 46_control.md: jumps (R501 to R505), calls and restarts (R506, R507, R511), and returns (R508 to
R510), each conditional one under cond(cc) (R500). -/

namespace Sys2Proof.Machine

open Sys2Proof.Stated

/-! ### Encoding -/

theorem hasBytes_mkJp (cc : Cond) (addr : Word) : HasBytes (mkJp cc addr) (opXyz 3 (condField cc) 2 :: le16 addr) := by
  rw [le16_eq]
  cases cc <;> exact hasBytes_of_encode rfl rfl

theorem hasBytes_mkJr (cc : Cond) (e : Byte) : HasBytes (mkJr cc e) [opXyz 0 (4 + condField cc) 0, e] := by
  cases cc <;> exact hasBytes_of_encode rfl rfl

theorem hasBytes_mkCall (cc : Cond) (addr : Word) :
    HasBytes (mkCall cc addr) (opXyz 3 (condField cc) 4 :: le16 addr) := by
  rw [le16_eq]
  cases cc <;> exact hasBytes_of_encode rfl rfl

theorem hasBytes_mkRet (cc : Cond) : HasBytes (mkRet cc) [opXyz 3 (condField cc) 0] := by
  cases cc <;> exact hasBytes_of_encode rfl rfl

theorem hasBytes_mkRst (v : Fin 8) : HasBytes (mkRst v) [opXyz 3 v.val 7] := by
  fin_cases v <;> exact hasBytes_of_encode rfl rfl

/-- The vector of RST is below 0x40, so that a byte holds it and its zero-extension is the target (R122, R511). -/
theorem zext16_restartVector :
    ∀ v : Fin 8, zext16 (BitVec.ofNat 8 (8 * v.val)) = BitVec.ofNat 16 (8 * v.val) := by
  decide

/-! ### What an instruction leaves that ends at a target -/

section
variable {i : Instr} {s u : State} {cc : Cond} {v target : Word} {len cyc : Nat}

theorem runsTo_of_finishAt (h : exec i s = finishAt target cyc u) (hu : Underway i s u) : RunsTo i s u target cyc := by
  rw [RunsTo, h, finishAt, hu.count]

/-- `Push16(v)`, then PC at the target: what CALL and RST do. -/
theorem storeRunsTo_of_push16 (h : exec i s = finishAt target cyc (s.push16 v)) :
    StoreRunsTo i s { s with sp := s.sp - 2 } (pushed s v) target cyc :=
  ⟨_, h, stores_congr (stores_push16 s v) rfl rfl rfl, by rw [← s.push16_frame v]; rfl⟩

/-- An instruction with a condition is what its taken side `r` makes of it where the condition holds; where it does
not, the state is left but for PC and the count. -/
theorem taken_or_runs_of_cond {r : Result} {Taken : Prop}
    (h : exec i s = if s.cond cc then r else finish len cyc s) (htaken : exec i s = r → Taken) :
    if s.cond cc = true then Taken else Runs i s s len cyc := by
  split
  · next hcond => exact htaken (h.trans (if_pos hcond))
  · next hcond => exact runs_of_finish (h.trans (if_neg hcond)) (.refl i s)

end

/-! ### The obligations -/

/-- Settles O49: each of the three ends at its target with the state as it was. -/
theorem unconditionalJumps : Obligations.UnconditionalJumps := by
  unfold Obligations.UnconditionalJumps
  intro addr e s
  rw [le16_eq]
  exact ⟨hasBytes_of_encode rfl rfl, runsTo_of_finishAt rfl (.refl _ s),
    hasBytes_of_encode rfl rfl, runsTo_of_finishAt rfl (.refl _ s),
    hasBytes_of_encode rfl rfl, runsTo_of_finishAt rfl (.refl _ s)⟩

/-- Settles O50: each condition is one bit of F or its negation, and JP cc and JR cc are `jumpIf` and
`jumpRelativeIf`. -/
theorem conditionalJumps : Obligations.ConditionalJumps := by
  unfold Obligations.ConditionalJumps
  intro cc addr e s
  refine ⟨?_, hasBytes_mkJp cc addr,
    taken_or_runs_of_cond (exec_mkJp cc addr s) fun h => runsTo_of_finishAt h (.refl _ s),
    hasBytes_mkJr cc e, taken_or_runs_of_cond (exec_mkJr cc e s) fun h => runsTo_of_finishAt h (.refl _ s)⟩
  cases cc <;> rfl

/-- Settles O51: each of the three is `push16` of its return address, then its target. -/
theorem callsPushReturnAddress : Obligations.CallsPushReturnAddress := by
  unfold Obligations.CallsPushReturnAddress
  intro cc addr v s
  have hcall : HasBytes (.callA16 addr) (0xCD :: le16 addr) := by
    rw [le16_eq]
    exact hasBytes_of_encode rfl rfl
  have hrst : exec (mkRst v) s = finishAt (BitVec.ofNat 16 (8 * v.val)) 16 (s.push16 (s.pc + 1)) := by
    rw [exec_mkRst, restart, zext16_restartVector]
  exact ⟨hcall, storeRunsTo_of_push16 rfl,
    hasBytes_mkCall cc addr, taken_or_runs_of_cond (exec_mkCall cc addr s) storeRunsTo_of_push16,
    hasBytes_mkRst v, storeRunsTo_of_push16 hrst⟩

/-- Settles O52: each of the three ends at the word popped, SP above it; RETI sets `ime` on the way. -/
theorem returnsPopPc : Obligations.ReturnsPopPc := by
  unfold Obligations.ReturnsPopPc
  intro cc s
  have hreti : Underway .reti s { s.popped with ime := true } := ⟨rfl, rfl, fun h => absurd (by simp) h⟩
  exact ⟨hasBytes_of_encode rfl rfl, runsTo_of_finishAt rfl (.popped _ s),
    hasBytes_mkRet cc, taken_or_runs_of_cond (exec_mkRet cc s) fun h => runsTo_of_finishAt h (.popped _ s),
    hasBytes_of_encode rfl rfl, runsTo_of_finishAt rfl hreti⟩

end Sys2Proof.Machine
end

section
/-! The statements of 47_misc.md: NOP, CPL, SCF and CCF (R550, R552 to R554), DAA (R551), HALT, STOP, DI and EI (R555
to R558), and the unimplemented slots (R559). -/

namespace Sys2Proof.Machine

open Sys2Proof.Stated

/-! ### Flags that keep their value -/

/-- Writing a flag with the value it has leaves F. -/
theorem putFlag_of_getFlag_eq {f : Byte} {x : Flag} {v : Bool} (h : getFlag f x = v) : putFlag f x v = f := by
  apply BitVec.eq_of_getLsbD_eq
  intro j hj
  rw [getLsbD_putFlag f x v j hj]
  split
  · next hjx => rw [hjx]; exact h.symm
  · rfl

/-- Writing N, Hf and Cy is writing all four, Z with the value it has. -/
theorem putNhc_eq_putZnhc (f : Byte) (n h c : Bool) : putNhc f n h c = putZnhc f (getFlag f .z) n h c := by
  rw [putZnhc, putFlag_of_getFlag_eq rfl]
  rfl

/-- CPL writes N and Hf alone (R552). -/
theorem putFlag_n_h_eq_putZnhc (f : Byte) (n h : Bool) :
    putFlag (putFlag f .n n) .h h = putZnhc f (getFlag f .z) n h (getFlag f .c) := by
  have hc : getFlag (putFlag (putFlag f .n n) .h h) .c = getFlag f .c := by simp
  rw [← putNhc_eq_putZnhc, putNhc, putFlag_of_getFlag_eq hc]

/-- DAA writes Z, Hf and Cy (R551). -/
theorem putFlag_z_h_c_eq_putZnhc (f : Byte) (z h c : Bool) :
    putFlag (putFlag (putFlag f .z z) .h h) .c c = putZnhc f z (getFlag f .n) h c := by
  have hn : getFlag (putFlag f .z z) .n = getFlag f .n := by simp
  rw [putZnhc, putFlag_of_getFlag_eq hn]

/-! ### The correction of DAA -/

/-- The two halves of the correction share no bit, so OR is their sum, and the upper one is there from 0x60 on. -/
theorem daaCorrection_eq (a : Byte) (n h c : Bool) :
    daaCorrection a n h c =
      (BitVec.ofNat 8 (daaDigits a.toNat n h c), decide (0x60 ≤ daaDigits a.toNat n h c)) := by
  have hnibble : (a &&& 0x0F).toNat = a.toNat % 16 := Nat.and_two_pow_sub_one_eq_mod a.toNat 4
  have hor (x : Bool) (p : Prop) [Decidable p] : (x || (!n && decide p)) = decide (x = true ∨ (n = false ∧ p)) := by
    simp
  rw [daaCorrection, daaDigits, hnibble, hor, hor]
  by_cases hl : h = true ∨ (n = false ∧ 9 < a.toNat % 16) <;>
    by_cases hh : c = true ∨ (n = false ∧ 0x99 < a.toNat) <;> simp [hl, hh]

/-- DAA in arithmetic on its correction; all flags but N are written. -/
theorem decimalAdjust_eq (s : State) :
    decimalAdjust s =
      let n := getFlag s.f .n
      let k := daaDigits s.a.toNat n (getFlag s.f .h) (getFlag s.f .c)
      let res := if n = true then s.a - BitVec.ofNat 8 k else s.a + BitVec.ofNat 8 k
      finish 1 4 { s with a := res, f := putZnhc s.f (decide (res = 0)) n false (decide (0x60 ≤ k)) } := by
  dsimp only
  rw [← putFlag_z_h_c_eq_putZnhc, decimalAdjust, daa, daaCorrection_eq]
  rfl

/-! ### Idle steps -/

/-- Any number of idle steps adds 4 cycles for each and does nothing else (R148). -/
theorem runFor_of_idle {t : State} (ht : t.runState = .halted ∨ t.runState = .stopped) (k : Nat) :
    runFor k t = some { t with cycleCount := t.cycleCount + BitVec.ofNat 64 (4 * k) } := by
  induction k generalizing t with
  | zero => simp [runFor]
  | succ k ih =>
    have hcount : t.cycleCount + BitVec.ofNat 64 4 + BitVec.ofNat 64 (4 * k) =
        t.cycleCount + BitVec.ofNat 64 (4 * (k + 1)) := by
      rw [BitVec.add_assoc, ← BitVec.ofNat_add, Nat.mul_succ, Nat.add_comm]
    rw [runFor, step_of_idle ht]
    exact (ih (t := t.idle) ht).trans (by rw [← hcount]; rfl)

/-! ### The unimplemented slots -/

theorem hasBytes_unimplemented {op : Byte} {i : Instr} (h : (op, i) ∈ unimplementedSlots) : HasBytes i [op] := by
  simp only [unimplementedSlots, List.mem_cons, List.not_mem_nil, or_false, Prod.mk.injEq] at h
  obtain ⟨rfl, rfl⟩ | ⟨rfl, rfl⟩ | ⟨rfl, rfl⟩ | ⟨rfl, rfl⟩ | ⟨rfl, rfl⟩ | ⟨rfl, rfl⟩ | ⟨rfl, rfl⟩ | ⟨rfl, rfl⟩ |
    ⟨rfl, rfl⟩ | ⟨rfl, rfl⟩ | ⟨rfl, rfl⟩ := h <;> exact hasBytes_of_encode rfl rfl

/-! ### The obligations -/

/-- Settles O53: the four by definition, the flags that an instruction does not name rewritten with their own value. -/
theorem nopAndFlagInstructions : Obligations.NopAndFlagInstructions := by
  unfold Obligations.NopAndFlagInstructions
  intro s
  rw [← putFlag_n_h_eq_putZnhc, ← putNhc_eq_putZnhc, ← putNhc_eq_putZnhc]
  exact ⟨hasBytes_of_encode rfl rfl, runs_of_finish rfl (.refl _ s),
    hasBytes_of_encode rfl rfl, runs_of_finish rfl ((Underway.setReg _ s .a (~~~s.a)).setF _),
    hasBytes_of_encode rfl rfl, runs_of_finish rfl ((Underway.refl _ s).setF _),
    hasBytes_of_encode rfl rfl, runs_of_finish rfl ((Underway.refl _ s).setF _)⟩

/-- Settles O54: A and F are written, by the correction in arithmetic (`decimalAdjust` is the model's operation). -/
theorem decimalAdjust_holds : Obligations.DecimalAdjust := by
  unfold Obligations.DecimalAdjust
  intro s
  exact ⟨hasBytes_of_encode rfl rfl, runs_of_setReg_setF (r := .a) (decimalAdjust_eq s)⟩

/-- Settles O55: the four by definition; HALT and STOP leave a state that only idles. -/
theorem powerAndInterruptInstructions : Obligations.PowerAndInterruptInstructions := by
  unfold Obligations.PowerAndInterruptInstructions
  intro n s
  have hdi : Underway .di s { s with ime := false, imePending := false } := ⟨rfl, rfl, fun h => absurd (by simp) h⟩
  have hei : Underway .ei s { s with imePending := true } := ⟨rfl, rfl, fun h => absurd (by simp) h⟩
  refine ⟨hasBytes_of_encode rfl rfl, runs_of_finish rfl ⟨rfl, rfl, fun _ => ⟨rfl, rfl⟩⟩,
    hasBytes_of_encode rfl rfl, runs_of_finish rfl ⟨rfl, rfl, fun _ => ⟨rfl, rfl⟩⟩, fun t ht => runFor_of_idle ?_,
    hasBytes_of_encode rfl rfl, runs_of_finish rfl hdi, hasBytes_of_encode rfl rfl, runs_of_finish rfl hei⟩
  obtain ht | ht := ht
  · cases ht; exact .inl rfl
  · cases ht; exact .inr rfl

/-- Settles O56: each is `raiseFatal` of its byte; 0xCB is none of the eleven, and only they select these slots. -/
theorem unimplementedSlotsTakeFatal : Obligations.UnimplementedSlotsTakeFatal := by
  unfold Obligations.UnimplementedSlotsTakeFatal
  refine ⟨fun ⟨op, i⟩ hp s => ⟨hasBytes_unimplemented hp, exec_unimplemented op i hp s⟩, fun n1 n2 hmem => ?_⟩
  have hcb : (0xCB : Byte) ∉ unimplementedSlots.map Prod.fst := by decide
  exact hcb (opcode_unimplemented_of_decodeBytes hmem)

end Sys2Proof.Machine
end

section
/-! What the interrupt latches, the cycle counter and the fatal record can influence (60_exceptions.md §1 and §5): the
machine commutes with erasing them, so that two states alike but for these step to states alike but for these. -/

namespace Sys2Proof.Machine

open Sys2Proof.Stated

/-- An outcome with the latches, the cycle counter and the fatal record of its next state erased. -/
def outcomeWithoutLatches : Result → Result
  | .next t => .next (withoutLatches t)
  | .fault r => .fault r
  | .refused r => .refused r

/-- An operation finds the same and does the same in a state whose latches, counter and fatal record are erased. -/
def IgnoresLatches (op : State → Result) : Prop :=
  ∀ s, outcomeWithoutLatches (op (withoutLatches s)) = outcomeWithoutLatches (op s)

/-! ### The shared operations -/

theorem withoutLatches_setReg (s : State) (r : Reg8) (v : Byte) :
    withoutLatches ((withoutLatches s).setReg r v) = withoutLatches (s.setReg r v) := by
  cases r <;> rfl

theorem withoutLatches_setPair (s : State) (p : Pair) (v : Word) :
    withoutLatches ((withoutLatches s).setPair p v) = withoutLatches (s.setPair p v) := by
  cases p <;> rfl

theorem withoutLatches_popped_setStackPair (s : State) (q : StackPair) (v : Word) :
    withoutLatches ((withoutLatches s).popped.setStackPair q v) = withoutLatches (s.popped.setStackPair q v) := by
  cases q <;> rfl

theorem withoutLatches_setOperand (s : State) (o : Operand8) (v : Byte) :
    withoutLatches ((withoutLatches s).setOperand o v) = withoutLatches (s.setOperand o v) := by
  cases o with
  | reg r => exact withoutLatches_setReg s r v
  | indHl => rfl

theorem withoutLatches_accumulated (s : State) (op : AluOp) (v : Byte) :
    withoutLatches ((withoutLatches s).accumulated op v) = withoutLatches (s.accumulated op v) := by
  cases op <;> rfl

section
variable {u v : State} (huv : withoutLatches u = withoutLatches v)
include huv

theorem withoutLatches_setZnh (z n h : Bool) : withoutLatches (u.setZnh z n h) = withoutLatches (v.setZnh z n h) :=
  (congrArg (fun w => w.setZnh z n h) huv :)

theorem withoutLatches_setZnhc (z n h c : Bool) :
    withoutLatches (u.setZnhc z n h c) = withoutLatches (v.setZnhc z n h c) :=
  (congrArg (fun w => w.setZnhc z n h c) huv :)

theorem outcomeWithoutLatches_finish (len cyc : Nat) :
    outcomeWithoutLatches (finish len cyc u) = outcomeWithoutLatches (finish len cyc v) :=
  (congrArg (fun w => outcomeWithoutLatches (finish len cyc w)) huv :)

end

/-- A conditional operation takes the same branch, for F is no latch. -/
theorem ignoresLatches_cond {cc : Cond} {taken untaken : State → Result} (ht : IgnoresLatches taken)
    (hu : IgnoresLatches untaken) : IgnoresLatches fun s => if s.cond cc then taken s else untaken s := by
  intro s
  have hcond : (withoutLatches s).cond cc = s.cond cc := rfl
  dsimp only
  rw [hcond]
  split
  · exact ht s
  · exact hu s

/-! ### The instructions -/

theorem ignoresLatches_mkLd (d o : Operand8) : IgnoresLatches (exec (mkLd d o)) := by
  intro s
  cases d with
  | reg dst =>
    cases o with
    | reg src =>
      rw [exec_mkLd_reg, exec_mkLd_reg]
      exact outcomeWithoutLatches_finish (withoutLatches_setReg s dst _) 1 4
    | indHl =>
      rw [exec_mkLd_fromHl, exec_mkLd_fromHl]
      exact outcomeWithoutLatches_finish (withoutLatches_setReg s dst _) 1 8
  | indHl =>
    cases o with
    | reg src => rw [exec_mkLd_toHl, exec_mkLd_toHl]; rfl
    | indHl => rfl

theorem ignoresLatches_mkLdImm (d : Operand8) (n : Byte) : IgnoresLatches (exec (mkLdImm d n)) := by
  intro s
  cases d with
  | reg dst =>
    rw [exec_mkLdImm_reg, exec_mkLdImm_reg]
    exact outcomeWithoutLatches_finish (withoutLatches_setReg s dst n) 2 8
  | indHl => rfl

theorem ignoresLatches_rotateOperand (op : RotOp) (o : Operand8) : IgnoresLatches (rotateOperand op o) := fun s =>
  outcomeWithoutLatches_finish (withoutLatches_setZnhc (withoutLatches_setOperand s o _) _ _ _ _) 2 _

/-- No instruction that the decoder gives reads a latch, the counter or the fatal record (R43, R45, R46, R605). -/
theorem InstrForm.ignoresLatches {i : Instr} (hi : InstrForm i) : IgnoresLatches (exec i) := by
  cases hi with
  | ld d o => exact ignoresLatches_mkLd d o
  | ldImm d n => exact ignoresLatches_mkLdImm d n
  | inc o =>
    rw [funext (exec_mkInc o)]
    exact fun s => outcomeWithoutLatches_finish (withoutLatches_setZnh (withoutLatches_setOperand s o _) _ _ _) 1 _
  | dec o =>
    rw [funext (exec_mkDec o)]
    exact fun s => outcomeWithoutLatches_finish (withoutLatches_setZnh (withoutLatches_setOperand s o _) _ _ _) 1 _
  | ldPairImm p n =>
    rw [funext (exec_mkLdPairImm p n)]
    exact fun s => outcomeWithoutLatches_finish (withoutLatches_setPair s p n) 3 12
  | addHl p => rw [funext (exec_mkAddHl p)]; exact fun s => rfl
  | incPair p =>
    rw [funext (exec_mkIncPair p)]
    exact fun s => outcomeWithoutLatches_finish (withoutLatches_setPair s p _) 1 8
  | decPair p =>
    rw [funext (exec_mkDecPair p)]
    exact fun s => outcomeWithoutLatches_finish (withoutLatches_setPair s p _) 1 8
  | push q => rw [funext (exec_mkPush q)]; exact fun s => rfl
  | pop q =>
    rw [funext (exec_mkPop q)]
    exact fun s => outcomeWithoutLatches_finish (withoutLatches_popped_setStackPair s q _) 1 12
  | alu op src =>
    rw [funext (exec_mkAlu op src)]
    exact fun s => outcomeWithoutLatches_finish (withoutLatches_accumulated s op _) _ _
  | rot op o => rw [funext (exec_mkRot op o)]; exact ignoresLatches_rotateOperand op o
  | bit b o => rw [funext (exec_mkBit b o)]; exact fun s => rfl
  | res b o =>
    rw [funext (exec_mkRes b o)]
    exact fun s => outcomeWithoutLatches_finish (withoutLatches_setOperand s o _) 2 _
  | set b o =>
    rw [funext (exec_mkSet b o)]
    exact fun s => outcomeWithoutLatches_finish (withoutLatches_setOperand s o _) 2 _
  | jr cc e => rw [funext (exec_mkJr cc e)]; exact ignoresLatches_cond (fun s => rfl) (fun s => rfl)
  | jp cc addr => rw [funext (exec_mkJp cc addr)]; exact ignoresLatches_cond (fun s => rfl) (fun s => rfl)
  | call cc addr => rw [funext (exec_mkCall cc addr)]; exact ignoresLatches_cond (fun s => rfl) (fun s => rfl)
  | ret cc => rw [funext (exec_mkRet cc)]; exact ignoresLatches_cond (fun s => rfl) (fun s => rfl)
  | rst v => rw [funext (exec_mkRst v)]; exact fun s => rfl
  | nop | stop | rlca | rrca | rla | rra | daa | cpl | scf | ccf | di | ei
  | ldIndBcA | ldIndDeA | ldIndHlIncA | ldIndHlDecA | ldAIndBc | ldAIndDe | ldAIndHlInc | ldAIndHlDec
  | ldhIndA8A | ldhAIndA8 | ldIndCA | ldAIndC | ldIndA16A | ldAIndA16 | ldIndA16Sp | ldSpHl | addSpE8 | ldHlSpE8
  | jrE8 | jpA16 | jpHl | callA16 | plainRet | reti => exact fun s => rfl
  | unimplemented op _ h => rw [funext (exec_unimplemented op i h)]; exact fun s => rfl

/-! ### The step -/

/-- A promotion writes the latches only, so what follows from it is erased. -/
theorem withoutLatches_promoteIme (t : State) (arm : Bool) : withoutLatches (t.promoteIme arm) = withoutLatches t := by
  unfold State.promoteIme
  split <;> rfl

theorem outcomeWithoutLatches_endStep (arm : Bool) (r : Result) :
    outcomeWithoutLatches (endStep arm r) = outcomeWithoutLatches r := by
  cases r with
  | next t => exact congrArg Host.Outcome.next (withoutLatches_promoteIme t arm)
  | fault _ | refused _ => rfl

/-- Outside FATAL a step only passes the latches, the counter and the record on: it fetches the same instruction, which
ignores them, or it idles. -/
theorem step_ignoresLatches {s : State} (hs : s.runState ≠ .fatal) :
    outcomeWithoutLatches (step (withoutLatches s)) = outcomeWithoutLatches (step s) := by
  have hrun : (withoutLatches s).runState = s.runState := rfl
  cases h : s.runState with
  | running =>
    rw [step_of_running h, step_of_running (hrun.trans h), outcomeWithoutLatches_endStep, outcomeWithoutLatches_endStep]
    exact s.fetchInstr_form.ignoresLatches s
  | halted => rw [step_of_idle (.inl h), step_of_idle (.inl (hrun.trans h))]; rfl
  | stopped => rw [step_of_idle (.inr h), step_of_idle (.inr (hrun.trans h))]; rfl
  | fatal => exact absurd h hs

theorem exists_next_of_outcomeWithoutLatches {r : Result} {t : State}
    (h : outcomeWithoutLatches r = .next (withoutLatches t)) :
    ∃ t', r = .next t' ∧ withoutLatches t = withoutLatches t' := by
  cases r with
  | next t' => exact ⟨t', rfl, (Host.Outcome.next.inj h).symm⟩
  | fault _ | refused _ => cases h

/-! ### The fatal outcome -/

/-- One of the eleven bytes decodes to its unimplemented slot, whatever follows (R125). -/
theorem decodeBytes_mem_unimplementedSlots {op : Byte} (h : op ∈ unimplementedSlots.map Prod.fst) (n1 n2 : Byte) :
    (op, decodeBytes op n1 n2) ∈ unimplementedSlots := by
  obtain ⟨⟨op', i⟩, hmem, hop⟩ := List.mem_map.mp h
  obtain rfl : op' = op := hop
  obtain ⟨-, -, hdec⟩ := hasBytes_unimplemented hmem
  have hi : i = decodeBytes op' n1 n2 := eq_decodeBytes_of_decode (bytes := [n1, n2]) (hdec [n1, n2])
  rwa [← hi]

/-- Settles O16: the fetched instruction is the slot of the byte at PC, which takes `raiseFatal`; a fatal step promotes
no EI. -/
theorem unimplementedOpcodeIsFatal : Obligations.UnimplementedOpcodeIsFatal := by
  unfold Obligations.UnimplementedOpcodeIsFatal
  intro s hs hop
  have hexec : exec s.fetchInstr s = raiseFatal (s.readByte s.pc) s :=
    exec_unimplemented _ _ (decodeBytes_mem_unimplementedSlots hop _ _) s
  have hstep : step s = .next { s with runState := .fatal, fatalOpcode := s.readByte s.pc, fatalPc := s.pc } := by
    rw [step_of_running hs, hexec]
    simp [raiseFatal, endStep, State.promoteIme]
  exact ⟨hstep, by rw [stepResult, hstep]; rfl⟩

/-- A step into FATAL records the byte at PC and the PC (R600). -/
theorem fatal_record_of_step {s t : State} (hs : s.runState ≠ .fatal) (hstep : step s = .next t)
    (ht : t.runState = .fatal) : t.fatalOpcode = s.readByte s.pc ∧ t.fatalPc = s.pc := by
  obtain ⟨-, hrunning, hhalted, hstopped⟩ := onlyTheseLeaveRunning.2 s t hstep
  cases h : s.runState with
  | running =>
    obtain ⟨-, -, hfatal⟩ := hrunning h
    have hop := opcode_unimplemented_of_decodeBytes (hfatal.mp ht)
    obtain ⟨hstep', -⟩ := unimplementedOpcodeIsFatal s h hop
    cases hstep.symm.trans hstep'
    exact ⟨rfl, rfl⟩
  | halted => exact absurd ((hhalted h).symm.trans ht) (by decide)
  | stopped => exact absurd ((hstopped h).symm.trans ht) (by decide)
  | fatal => exact absurd h hs

/-- Settles O25: both states step as their common erasure does; the record of a fatal step is read off the byte at PC
and the PC, which they share. -/
theorem latchesDoNotInfluence : Obligations.LatchesDoNotInfluence := by
  unfold Obligations.LatchesDoNotInfluence
  intro s s' t hs hsame hstep
  have hrun : s.runState = s'.runState := (congrArg State.runState hsame :)
  have hpc : s.pc = s'.pc := (congrArg State.pc hsame :)
  have hbyte : s.readByte s.pc = s'.readByte s'.pc := (congrArg (fun u : State => u.readByte u.pc) hsame :)
  have houtcome : outcomeWithoutLatches (step s') = .next (withoutLatches t) := by
    rw [← step_ignoresLatches (hrun ▸ hs), ← hsame, step_ignoresLatches hs, hstep]
    rfl
  obtain ⟨t', hstep', ht'⟩ := exists_next_of_outcomeWithoutLatches houtcome
  refine ⟨t', hstep', ht', fun hfatal => ?_⟩
  have hfatal' : t'.runState = .fatal := (congrArg State.runState ht' :).symm.trans hfatal
  obtain ⟨hop, haddr⟩ := fatal_record_of_step hs hstep hfatal
  obtain ⟨hop', haddr'⟩ := fatal_record_of_step (hrun ▸ hs) hstep' hfatal'
  exact ⟨by rw [hop, hop', hbyte], by rw [haddr, haddr', hpc]⟩

end Sys2Proof.Machine
end

section
/-! Decoding and encoding are inverse to each other (30_encoding.md §1 to §4). -/

namespace Sys2Proof.Machine

open Sys2Proof.Stated

/-- Settles O8: `decode_encode_append`, for every well-formed instruction. -/
theorem decodeOfEncode : Obligations.DecodeOfEncode := by
  unfold Obligations.DecodeOfEncode
  exact decode_encode_append

/-- The encoding of what three bytes decode to begins with the first of them: its bytes select the same slot. -/
theorem head_encode_decodeBytes (op n1 n2 : Byte) (hcb : op ≠ 0xCB) :
    (encode (decodeBytes op n1 n2)).getD 0 0 = op := by
  have hslot := congrArg (fun i : Instr => i.row.slot)
    (decodeBytes_encode (decodeBytes op n1 n2) (wf_decodeBytes op n1 n2) [])
  simp only [List.append_nil, slotOfFetchedBytes _ _ _, if_neg hcb] at hslot
  split at hslot
  · have := op.isLt
    omega
  · exact BitVec.eq_of_toNat_eq hslot

theorem encode_decodePrefixed : ∀ op2 : Byte, encode (decodePrefixed op2) = [0xCB, op2] := by
  decide

/-- The opcode bytes with one operand byte (R115). -/
def oneOperandByte : List Byte :=
  [0x06, 0x0E, 0x16, 0x1E, 0x26, 0x2E, 0x36, 0x3E, 0x10, 0x18, 0x20, 0x28, 0x30, 0x38,
    0xC6, 0xCE, 0xD6, 0xDE, 0xE6, 0xEE, 0xF6, 0xFE, 0xE0, 0xF0, 0xE8, 0xF8]

/-- The opcode bytes with two operand bytes (R115). -/
def twoOperandBytes : List Byte :=
  [0x01, 0x11, 0x21, 0x31, 0x08, 0xC2, 0xC3, 0xCA, 0xD2, 0xDA, 0xC4, 0xCC, 0xCD, 0xD4, 0xDC, 0xEA, 0xFA]

/-- Each of these slots holds its operand byte as it is. -/
theorem encode_decodeBytes_oneOperandByte (n1 n2 : Byte) :
    ∀ op ∈ oneOperandByte, encode (decodeBytes op n1 n2) = [op, n1] :=
  List.map_inj_left.mp rfl

/-- Each of these slots holds the word of its operand bytes, which splits into them again. -/
theorem encode_decodeBytes_twoOperandBytes (n1 n2 : Byte) :
    ∀ op ∈ twoOperandBytes, encode (decodeBytes op n1 n2) = [op, n1, n2] := by
  have hword : ∀ op ∈ twoOperandBytes,
      encode (decodeBytes op n1 n2) = [op, lowByte (wordOf n2 n1), highByte (wordOf n2 n1)] :=
    List.map_inj_left.mp rfl
  simpa only [lowByte_wordOf, highByte_wordOf] using hword

/-- Settles O9: by the length that the first byte decides. A single byte is that one; two or three are read off their
slots. -/
theorem encodeOfDecode : Obligations.EncodeOfDecode := by
  unfold Obligations.EncodeOfDecode
  intro op n1 n2
  refine ⟨wf_decodeBytes op n1 n2, ?_⟩
  have hsize := lengthFromFirstByte op n1 n2
  split at hsize
  · next h =>
    rw [hsize]
    refine ⟨by decide, by decide, ?_⟩
    obtain rfl | h := List.mem_cons.mp h
    · exact encode_decodePrefixed n1
    · exact encode_decodeBytes_oneOperandByte n1 n2 op h
  · split at hsize
    · next h =>
      rw [hsize]
      exact ⟨by decide, by decide, encode_decodeBytes_twoOperandBytes n1 n2 op h⟩
    · next h _ =>
      rw [hsize]
      refine ⟨by decide, by decide, ?_⟩
      obtain ⟨op', henc⟩ := List.length_eq_one_iff.mp ((length_encode _).trans hsize)
      have hhead := head_encode_decodeBytes op n1 n2 fun hcb => h (hcb ▸ List.mem_cons_self)
      rw [henc] at hhead ⊢
      exact congrArg (fun b => [b]) hhead

/-- Settles O12: each word is the encoding of its instruction; the last list is a byte short of its three. -/
theorem sampleWordsDecode : Obligations.SampleWordsDecode := by
  unfold Obligations.SampleWordsDecode
  exact ⟨decode_encode_append .ldCB rfl [], decode_encode_append (.ldHlN16 0x1234) rfl [],
    decode_encode_append .pushAf rfl [], decode_encode_append .incIndHl rfl [],
    decode_encode_append .sbcAIndHl rfl [], decode_encode_append .cbSwapA rfl [],
    decode_encode_append .cbBit7H rfl [], decode_encode_append (.jrNzE8 0xFC) rfl [],
    decode_encode_append (.stop 0x00) rfl [], decode_encode_append .unimplementedD3 rfl [], rfl⟩

end Sys2Proof.Machine
end

section
/-! What completes: every instruction, the marker of slot 0xCB with it (log 5), and every step but in FATAL;
and the reset state. -/

namespace Sys2Proof.Machine

open Sys2Proof.Stated

/-- A prefixed slot does what its byte says by its fields (R124, R142). -/
theorem exec_decodePrefixed (op2 : Byte) (s : State) : exec (decodePrefixed op2) s = runPrefixed op2 s := by
  unfold decodePrefixed runPrefixed
  generalize fieldX op2 = x
  match x with
  | 0 => exact exec_mkRot _ _ s
  | 1 => exact exec_mkBit _ _ s
  | 2 => exact exec_mkRes _ _ s
  | _ + 3 => exact exec_mkSet _ _ s

theorem exec_prefixCb (s : State) : exec .prefixCb s = exec (decodePrefixed (s.readByte (s.pc + 1))) s :=
  (exec_decodePrefixed _ s).symm

/-- Every instruction answers a next state, the marker as the slot it selects. -/
theorem exec_completes (i : Instr) (s : State) : ∃ t, exec i s = .next t := by
  by_cases hi : i = .prefixCb
  · obtain ⟨t, ht, -⟩ := (decodePrefixed_form (s.readByte (s.pc + 1))).answers s
    exact ⟨t, by rw [hi, exec_prefixCb, ht]⟩
  · obtain ⟨t, ht, -⟩ := (form_of_wf i (wf_of_ne_prefixCb hi)).answers s
    exact ⟨t, ht⟩

/-- Settles O57: the marker runs the selected slot; a decoded slot is never the marker's. -/
theorem prefixMarkerRunsSelectedSlot : Obligations.PrefixMarkerRunsSelectedSlot := by
  unfold Obligations.PrefixMarkerRunsSelectedSlot
  intro s op n1 n2
  obtain ⟨t, ht⟩ := exec_completes .prefixCb s
  refine ⟨⟨t, ht, ?_⟩, fun h => slot_decodeBytes_ne_cb op n1 n2 (by rw [h]; rfl)⟩
  rw [decodeBytes_cbPrefix, ← exec_prefixCb, ht]

/-- Settles O21: a step in RUNNING ends an instruction, which completes; an idle step counts; FATAL is a fault. -/
theorem onlyFatalStops : Obligations.OnlyFatalStops := by
  unfold Obligations.OnlyFatalStops
  refine ⟨exec_completes, fun s => ⟨fun ⟨t, ht⟩ hs => ?_, fun hs => ?_⟩⟩
  · cases (step_of_fatal hs).symm.trans ht
  · cases h : s.runState with
    | running =>
      obtain ⟨u, hu⟩ := exec_completes s.fetchInstr s
      exact ⟨u.promoteIme s.imePending, by rw [step_of_running h, hu]; rfl⟩
    | halted => exact ⟨s.idle, step_of_idle (.inl h)⟩
    | stopped => exact ⟨s.idle, step_of_idle (.inr h)⟩
    | fatal => exact absurd h hs

/-- Reset builds a state for an image that fits the overlay only (R650). -/
theorem length_le_of_construct {img : List Byte} {mem : List Host.Cell} {t : State} (h : construct img mem = .ok t) :
    img.length ≤ Config.overlaySize := by
  unfold construct at h
  split at h
  · cases h
  · omega

/-- Settles O2: the cells and the image are put in canonical form, the image inside its 256 bytes, and F is 0. -/
theorem resetMeetsInvariant : Obligations.ResetMeetsInvariant := by
  unfold Obligations.ResetMeetsInvariant
  have hbuilt : ∀ img mem t, construct img mem = .ok t → t.Inv := by
    intro img mem t h
    have hlen := length_le_of_construct h
    obtain ⟨hrising, hcells⟩ := Memory.canonical_ofBytes img 0 Config.overlaySize (by omega)
    rw [construct_ok h]
    exact ⟨Memory.canonical_ofCells _ mem, by rw [Memory.canonical, hrising, hcells]; rfl, BitVec.zero_and⟩
  exact ⟨hbuilt [] [] State.reset construct_default, hbuilt⟩

end Sys2Proof.Machine
end
